-- ==== Sys2Proof/Word.lean ====
section
/-! DEFINITION. The two word types of the core: an 8-bit byte (registers, data bus) and a 16-bit word (addresses, pairs) (R4). -/

namespace Sys2Proof

/-- An 8-bit register or one byte on the bus (R4). -/
abbrev Byte := BitVec 8

/-- A 16-bit register, pair or address (R4). -/
abbrev Word := BitVec 16

end Sys2Proof
end

