-- ==== Sys2Proof/Config.lean ====
section
/-! DEFINITION. The free values: constants with no body, so that no proof can see what they are and a claim is true whatever they are. -/

namespace Sys2Proof.Config

/-- `InitMem` (R5, R363): what the cell of a store reads as until something writes it, one value per cell, fixed for the run.
It stands for the contents of VRAM, WRAM, HRAM, OAM and cartridge RAM at reset and for the cartridge's ROM image
where State lists no byte of it. Free value; log entry 2. -/
opaque initMem : Nat → Byte

/-- The draw of `ExtIO` (R5, R50, R54): the byte a joypad, serial or PPU register answers at a T-cycle and an address
where the configuration supplies no answer. Two reads never happen at one T-cycle, so each read is a draw of its own.
Free value; log entry 5. -/
opaque extIoDraw : Nat → Word → Byte

/-- The read function of a cartridge other than the baseline (`CartRom`, `CartRam`, R5, R43, R45): the byte it answers after the
writes delivered to it so far (newest first), at a T-cycle and an address, where the configuration supplies no answer.
Free value; log entry 4. -/
opaque cartRead : List (Word × Byte) → Nat → Word → Byte

end Sys2Proof.Config
end

