-- ==== Sys2Proof/Syntax.lean ====
section
/-! DEFINITION. The instructions: the operand names of the index tables (R84 to R87) and one constructor of `Instr` per row of the opcode table (R88 to R92). -/

namespace Sys2Proof

/-- The 8-bit registers of `r8` (R84), in the order of its indexes; index 6 is not a register. -/
inductive Reg8
  | b
  | c
  | d
  | e
  | h
  | l
  | a
deriving DecidableEq, Repr

/-- An 8-bit operand of `r8` (R84): a register, or the byte at address HL (index 6). -/
inductive Opnd8
  | reg (r : Reg8)
  | atHl
deriving DecidableEq, Repr

/-- `r16` (R85): the pairs of the 16-bit loads and arithmetic. -/
inductive Reg16
  | bc
  | de
  | hl
  | sp
deriving DecidableEq, Repr

/-- `r16stk` (R85): the pairs of PUSH and POP. -/
inductive Reg16Stk
  | bc
  | de
  | hl
  | af
deriving DecidableEq, Repr

/-- `cc` (R86). -/
inductive Cond
  | nz
  | z
  | nc
  | c
deriving DecidableEq, Repr

/-- `alu` (R87). -/
inductive AluOp
  | add
  | adc
  | sub
  | sbc
  | and
  | xor
  | or
  | cp
deriving DecidableEq, Repr

/-- `rot` (R87). -/
inductive RotOp
  | rlc
  | rrc
  | rl
  | rr
  | sla
  | sra
  | swap
  | srl
deriving DecidableEq, Repr

/-- The instructions, one constructor per row of the opcode table, in the table's order but for the prefix
and the illegal bytes, which stand last. An immediate is part of the instruction:
`n` of 8 bits (n8), `e` of 8 bits (e8, two's complement), `n` of 16 bits (n16). STOP carries its throwaway byte (R274).
`prefixCb` is the unprefixed table's row of the prefix byte 0xCB (R275); the eleven `illegal` rows are R276. -/
inductive Instr
  | nop
  | ldBcN16 (n : Word)
  | ldAtBcA
  | incBc
  | incB
  | decB
  | ldBN8 (n : Byte)
  | rlca
  | ldAtN16Sp (n : Word)
  | addHlBc
  | ldAAtBc
  | decBc
  | incC
  | decC
  | ldCN8 (n : Byte)
  | rrca
  | stop (n : Byte)
  | ldDeN16 (n : Word)
  | ldAtDeA
  | incDe
  | incD
  | decD
  | ldDN8 (n : Byte)
  | rla
  | jrE8 (e : Byte)
  | addHlDe
  | ldAAtDe
  | decDe
  | incE
  | decE
  | ldEN8 (n : Byte)
  | rra
  | jrNzE8 (e : Byte)
  | ldHlN16 (n : Word)
  | ldAtHliA
  | incHl
  | incH
  | decH
  | ldHN8 (n : Byte)
  | daa
  | jrZE8 (e : Byte)
  | addHlHl
  | ldAAtHli
  | decHl
  | incL
  | decL
  | ldLN8 (n : Byte)
  | cpl
  | jrNcE8 (e : Byte)
  | ldSpN16 (n : Word)
  | ldAtHldA
  | incSp
  | incAtHl
  | decAtHl
  | ldAtHlN8 (n : Byte)
  | scf
  | jrCE8 (e : Byte)
  | addHlSp
  | ldAAtHld
  | decSp
  | incA
  | decA
  | ldAN8 (n : Byte)
  | ccf
  | ldBB
  | ldBC
  | ldBD
  | ldBE
  | ldBH
  | ldBL
  | ldBAtHl
  | ldBA
  | ldCB
  | ldCC
  | ldCD
  | ldCE
  | ldCH
  | ldCL
  | ldCAtHl
  | ldCA
  | ldDB
  | ldDC
  | ldDD
  | ldDE
  | ldDH
  | ldDL
  | ldDAtHl
  | ldDA
  | ldEB
  | ldEC
  | ldED
  | ldEE
  | ldEH
  | ldEL
  | ldEAtHl
  | ldEA
  | ldHB
  | ldHC
  | ldHD
  | ldHE
  | ldHH
  | ldHL
  | ldHAtHl
  | ldHA
  | ldLB
  | ldLC
  | ldLD
  | ldLE
  | ldLH
  | ldLL
  | ldLAtHl
  | ldLA
  | ldAtHlB
  | ldAtHlC
  | ldAtHlD
  | ldAtHlE
  | ldAtHlH
  | ldAtHlL
  | halt
  | ldAtHlA
  | ldAB
  | ldAC
  | ldAD
  | ldAE
  | ldAH
  | ldAL
  | ldAAtHl
  | ldAA
  | addAB
  | addAC
  | addAD
  | addAE
  | addAH
  | addAL
  | addAAtHl
  | addAA
  | adcAB
  | adcAC
  | adcAD
  | adcAE
  | adcAH
  | adcAL
  | adcAAtHl
  | adcAA
  | subAB
  | subAC
  | subAD
  | subAE
  | subAH
  | subAL
  | subAAtHl
  | subAA
  | sbcAB
  | sbcAC
  | sbcAD
  | sbcAE
  | sbcAH
  | sbcAL
  | sbcAAtHl
  | sbcAA
  | andAB
  | andAC
  | andAD
  | andAE
  | andAH
  | andAL
  | andAAtHl
  | andAA
  | xorAB
  | xorAC
  | xorAD
  | xorAE
  | xorAH
  | xorAL
  | xorAAtHl
  | xorAA
  | orAB
  | orAC
  | orAD
  | orAE
  | orAH
  | orAL
  | orAAtHl
  | orAA
  | cpAB
  | cpAC
  | cpAD
  | cpAE
  | cpAH
  | cpAL
  | cpAAtHl
  | cpAA
  | retNz
  | popBc
  | jpNzN16 (n : Word)
  | jpN16 (n : Word)
  | callNzN16 (n : Word)
  | pushBc
  | addAN8 (n : Byte)
  | rst00
  | retZ
  | ret
  | jpZN16 (n : Word)
  | callZN16 (n : Word)
  | callN16 (n : Word)
  | adcAN8 (n : Byte)
  | rst08
  | retNc
  | popDe
  | jpNcN16 (n : Word)
  | callNcN16 (n : Word)
  | pushDe
  | subAN8 (n : Byte)
  | rst10
  | retC
  | reti
  | jpCN16 (n : Word)
  | callCN16 (n : Word)
  | sbcAN8 (n : Byte)
  | rst18
  | ldhAtN8A (n : Byte)
  | popHl
  | ldhAtCA
  | pushHl
  | andAN8 (n : Byte)
  | rst20
  | addSpE8 (e : Byte)
  | jpHl
  | ldAtN16A (n : Word)
  | xorAN8 (n : Byte)
  | rst28
  | ldhAAtN8 (n : Byte)
  | popAf
  | ldhAAtC
  | di
  | pushAf
  | orAN8 (n : Byte)
  | rst30
  | ldHlSpE8 (e : Byte)
  | ldSpHl
  | ldAAtN16 (n : Word)
  | ei
  | cpAN8 (n : Byte)
  | rst38
  | rlcB
  | rlcC
  | rlcD
  | rlcE
  | rlcH
  | rlcL
  | rlcAtHl
  | rlcA
  | rrcB
  | rrcC
  | rrcD
  | rrcE
  | rrcH
  | rrcL
  | rrcAtHl
  | rrcA
  | rlB
  | rlC
  | rlD
  | rlE
  | rlH
  | rlL
  | rlAtHl
  | rlA
  | rrB
  | rrC
  | rrD
  | rrE
  | rrH
  | rrL
  | rrAtHl
  | rrA
  | slaB
  | slaC
  | slaD
  | slaE
  | slaH
  | slaL
  | slaAtHl
  | slaA
  | sraB
  | sraC
  | sraD
  | sraE
  | sraH
  | sraL
  | sraAtHl
  | sraA
  | swapB
  | swapC
  | swapD
  | swapE
  | swapH
  | swapL
  | swapAtHl
  | swapA
  | srlB
  | srlC
  | srlD
  | srlE
  | srlH
  | srlL
  | srlAtHl
  | srlA
  | bit0B
  | bit0C
  | bit0D
  | bit0E
  | bit0H
  | bit0L
  | bit0AtHl
  | bit0A
  | bit1B
  | bit1C
  | bit1D
  | bit1E
  | bit1H
  | bit1L
  | bit1AtHl
  | bit1A
  | bit2B
  | bit2C
  | bit2D
  | bit2E
  | bit2H
  | bit2L
  | bit2AtHl
  | bit2A
  | bit3B
  | bit3C
  | bit3D
  | bit3E
  | bit3H
  | bit3L
  | bit3AtHl
  | bit3A
  | bit4B
  | bit4C
  | bit4D
  | bit4E
  | bit4H
  | bit4L
  | bit4AtHl
  | bit4A
  | bit5B
  | bit5C
  | bit5D
  | bit5E
  | bit5H
  | bit5L
  | bit5AtHl
  | bit5A
  | bit6B
  | bit6C
  | bit6D
  | bit6E
  | bit6H
  | bit6L
  | bit6AtHl
  | bit6A
  | bit7B
  | bit7C
  | bit7D
  | bit7E
  | bit7H
  | bit7L
  | bit7AtHl
  | bit7A
  | res0B
  | res0C
  | res0D
  | res0E
  | res0H
  | res0L
  | res0AtHl
  | res0A
  | res1B
  | res1C
  | res1D
  | res1E
  | res1H
  | res1L
  | res1AtHl
  | res1A
  | res2B
  | res2C
  | res2D
  | res2E
  | res2H
  | res2L
  | res2AtHl
  | res2A
  | res3B
  | res3C
  | res3D
  | res3E
  | res3H
  | res3L
  | res3AtHl
  | res3A
  | res4B
  | res4C
  | res4D
  | res4E
  | res4H
  | res4L
  | res4AtHl
  | res4A
  | res5B
  | res5C
  | res5D
  | res5E
  | res5H
  | res5L
  | res5AtHl
  | res5A
  | res6B
  | res6C
  | res6D
  | res6E
  | res6H
  | res6L
  | res6AtHl
  | res6A
  | res7B
  | res7C
  | res7D
  | res7E
  | res7H
  | res7L
  | res7AtHl
  | res7A
  | set0B
  | set0C
  | set0D
  | set0E
  | set0H
  | set0L
  | set0AtHl
  | set0A
  | set1B
  | set1C
  | set1D
  | set1E
  | set1H
  | set1L
  | set1AtHl
  | set1A
  | set2B
  | set2C
  | set2D
  | set2E
  | set2H
  | set2L
  | set2AtHl
  | set2A
  | set3B
  | set3C
  | set3D
  | set3E
  | set3H
  | set3L
  | set3AtHl
  | set3A
  | set4B
  | set4C
  | set4D
  | set4E
  | set4H
  | set4L
  | set4AtHl
  | set4A
  | set5B
  | set5C
  | set5D
  | set5E
  | set5H
  | set5L
  | set5AtHl
  | set5A
  | set6B
  | set6C
  | set6D
  | set6E
  | set6H
  | set6L
  | set6AtHl
  | set6A
  | set7B
  | set7C
  | set7D
  | set7E
  | set7H
  | set7L
  | set7AtHl
  | set7A
  | prefixCb
  | illegalD3
  | illegalDB
  | illegalDD
  | illegalE3
  | illegalE4
  | illegalEB
  | illegalEC
  | illegalED
  | illegalF4
  | illegalFC
  | illegalFD
deriving DecidableEq, Repr

end Sys2Proof
end

