-- ==== Sys2Proof/WellFormed.lean ====
section
/-! DEFINITION. Which instructions are well formed. -/

namespace Sys2Proof

/-- Every row is an instruction but the prefix byte alone: "0xCB in the unprefixed table is not an instruction of its own" (R83,
R275); the pair of the prefix and a second byte is one, a row of the CB table. The immediates need no check: their types have
exactly the widths of R82. -/
def Instr.wellFormed (i : Instr) : Bool := decide (i ≠ .prefixCb)

end Sys2Proof
end

