-- ==== Sys2Proof/Machine/State.lean ====
section
/-! DEFINITION. The machine's state as plain data, the reasons a step can stop, and the state after reset. -/

namespace Sys2Proof.Machine

/-- The register file (R10): eight 8-bit registers, `sp` and `pc`. The pairs are views of it (R12). -/
structure Regs where
  a : Byte
  f : Byte
  b : Byte
  c : Byte
  d : Byte
  e : Byte
  h : Byte
  l : Byte
  sp : Word
  pc : Word
deriving DecidableEq, Repr

/-- The timer inside the core (R23 to R28, R330). -/
structure Timer where
  /-- `div_counter` (R23); DIV is its high byte (R24). -/
  divCounter : Word
  /-- `tima` (R25). -/
  tima : Byte
  /-- `tma` (R26). -/
  tma : Byte
  /-- `tac` (R27): bit 2 enable, bits 1 and 0 clock select. -/
  tac : BitVec 3
  /-- `tima_overflow_pending` (R28). -/
  overflowPending : Bool
  /-- `reload_delay` (R28), a count in 0..4. -/
  reloadDelay : Nat
deriving DecidableEq, Repr

/-- The values of the input `ppu_mode` (R48). -/
inductive PpuMode
  | oamScan
  | drawing
  | other
deriving DecidableEq, Repr

/-- The five interrupt sources (R310), in the order of their bits. -/
inductive IntKind
  | vblank
  | lcdStat
  | timer
  | serial
  | joypad
deriving DecidableEq, Repr

/-- The kinds that a collaborator outside the core can request (R312): never the timer. -/
inductive ExtKind
  | vblank
  | lcdStat
  | serial
  | joypad
deriving DecidableEq, Repr

/-- What stands behind a range of the cartridge (`CartRom`, `CartRam`, R5, R43, R45). Log entry 4. -/
inductive CartDevice
  /-- R5's baseline: the range's cells. `CartRom` ignores writes, `CartRam` is a store that is always enabled. -/
  | plain
  /-- Any other device: its read function and its write function are its own (R43, R57). -/
  | other
deriving DecidableEq, Repr

/-- The parameters of R5 that the running machine looks at, as plain data: the two devices of the cartridge, and schedules keyed by
the T-cycle `t`. What a schedule does not list is R5's baseline, mode `Other` and no request, or a free value.
Log entries 4 to 7. -/
structure Inputs where
  /-- `CartRom` (R43). -/
  cartRom : CartDevice
  /-- `CartRam` (R45). -/
  cartRam : CartDevice
  /-- The answers of a cartridge other than the baseline that a configuration supplies (R43, R45, R57). -/
  cart : List (Nat × Byte)
  /-- `ppu_mode(t)` (R48). -/
  ppuMode : List (Nat × PpuMode)
  /-- `ext_irq(t)` (R312): every entry at `t` is requested. -/
  extIrq : List (Nat × ExtKind)
  /-- The answers of the devices behind `ExtIO` that a configuration supplies (R50, R54, R57). -/
  extIo : List (Nat × Byte)
deriving DecidableEq, Repr

/-- R5's baseline: the plain cartridge, and nothing listed. -/
def Inputs.baseline : Inputs where
  cartRom := .plain
  cartRam := .plain
  cart := []
  ppuMode := []
  extIrq := []
  extIo := []

/-- A write delivered to a device outside the core: `ExtIO` (R50, R54), or a cartridge other than the baseline (R43, R45). -/
structure OutputEvent where
  t : Nat
  addr : Word
  value : Byte
deriving DecidableEq, Repr

/-- What the fault latch can hold besides `None` (R29). -/
inductive FaultCause
  /-- `IllegalOpcode(addr, byte)` (R301). -/
  | illegalOpcode (addr : Word) (op : Byte)
  /-- `UnmappedAddress(addr)` (R302). -/
  | unmappedAddress (addr : Word)
deriving DecidableEq, Repr

/-- The stores behind the bus (R30): cells listed by bus address, addresses strictly rising. Log entry 3. -/
abbrev Memory := List Host.Cell

/-- The state of the core, of the stores behind its bus, and the model's inputs and outputs. -/
structure State where
  regs : Regs
  /-- IME (R18). -/
  ime : Bool
  /-- `ime_pending` (R19): the enable that EI has scheduled. -/
  imePending : Bool
  /-- `halted` (R20). -/
  halted : Bool
  /-- IF (R21), five stored bits. -/
  iflag : BitVec 5
  /-- IE (R22), five stored bits. -/
  ie : BitVec 5
  timer : Timer
  /-- The fault latch (R29, R300). -/
  fault : Option FaultCause
  /-- T-cycles since reset (R291); not readable by software. -/
  t : Nat
  mem : Memory
  inputs : Inputs
  /-- Output events, newest first. -/
  outputs : List OutputEvent
deriving DecidableEq, Repr

/-- Why the machine has stopped. Each reason carries the frozen state (R300, R303): everything the step had done when the
fault was raised, with the latch set. -/
inductive Fault
  /-- Raised by the meanings of the eleven illegal bytes and by a step of a state that has this fault latched (R300, R301).
  Safe: the spec gives no state after it. -/
  | illegalOpcode (addr : Word) (op : Byte) (frozen : State)
  /-- Raised by any bus access to an I/O address with no device (R53, R302) and by a step of a state that has this fault
  latched. Safe: the spec gives no state after it. -/
  | unmappedAddress (addr : Word) (frozen : State)
deriving DecidableEq, Repr

/-- Why the model gives no meaning. No instruction is refused. -/
inductive Refusal
  /-- Raised by `exec` alone, for an instruction with no meaning yet; no arm raises it. Safe. -/
  | notModelled (mnemonic : String)
deriving DecidableEq, Repr

/-- What a step or a meaning answers. -/
abbrev StepResult := Host.Outcome State Fault Refusal

/-- `ResetAux` (R5, R362): the reset values of the state that SPINEL gives no reset value for. -/
structure ResetAux where
  ime : Bool
  imePending : Bool
  halted : Bool
  iflag : BitVec 5
  ie : BitVec 5
  timer : Timer
deriving DecidableEq, Repr

/-- The baseline of `ResetAux` (the table of R362). Log entry 1. -/
def ResetAux.baseline : ResetAux where
  ime := false
  imePending := false
  halted := false
  iflag := 0
  ie := 0
  timer := { divCounter := 0, tima := 0, tma := 0, tac := 0, overflowPending := false, reloadDelay := 0 }

/-- The CPU registers at reset (R360). -/
def Regs.reset : Regs where
  a := 0x01
  f := 0xB0
  b := 0x00
  c := 0x13
  d := 0x00
  e := 0xD8
  h := 0x01
  l := 0x4D
  sp := 0xFFFE
  pc := 0x0100

/-- The state after reset for given parameters (R5, R360 to R364): auxiliary reset values, memory image, inputs. -/
def State.resetWith (aux : ResetAux) (image : Memory) (inputs : Inputs) : State where
  regs := Regs.reset
  ime := aux.ime
  imePending := aux.imePending
  halted := aux.halted
  iflag := aux.iflag
  ie := aux.ie
  timer := aux.timer
  fault := none
  t := 0
  mem := image
  inputs := inputs
  outputs := []

/-- The machine right after reset, every parameter of R5 at its baseline and no program loaded. Log entries 1, 2, 4, 6, 7, 8. -/
def State.reset : State := State.resetWith .baseline [] .baseline

end Sys2Proof.Machine
end

