-- ==== Sys2Proof/Machine/Flags.lean ====
section
/-! DEFINITION. The flag register's layout and every computation of a result with its flags. -/

namespace Sys2Proof.Machine

/-- F from its four flags (R13): Z bit 7, N bit 6, H bit 5, Cy bit 4, low nibble 0. -/
def packFlags (z n h cy : Bool) : Byte :=
  BitVec.ofBool z ++ BitVec.ofBool n ++ BitVec.ofBool h ++ BitVec.ofBool cy ++ 0#4

/-- Bit 7 of F. -/
def flagZ (f : Byte) : Bool := f.getLsbD 7
/-- Bit 6 of F. -/
def flagN (f : Byte) : Bool := f.getLsbD 6
/-- Bit 5 of F. -/
def flagH (f : Byte) : Bool := f.getLsbD 5
/-- Bit 4 of F. -/
def flagC (f : Byte) : Bool := f.getLsbD 4

/-- What every write of F does to the data written (R12, R13): the low nibble is forced to 0. -/
def maskF (v : Byte) : Byte := v &&& 0xF0

/-- A result byte and the four flags that go with it. -/
structure AluResult where
  res : Byte
  z : Bool
  n : Bool
  h : Bool
  cy : Bool
deriving DecidableEq, Repr

/-- `add8` of R110: computed on unbounded integers before masking. -/
def add8 (a v : Byte) (c : Bool) : AluResult :=
  let s := a.toNat + v.toNat + c.toNat
  let res := BitVec.ofNat 8 s
  { res, z := res == 0, n := false, h := decide (a.toNat % 16 + v.toNat % 16 + c.toNat > 15), cy := decide (s > 255) }

/-- `sub8` of R110: the borrow tests compare unmasked integers. -/
def sub8 (a v : Byte) (c : Bool) : AluResult :=
  let d : Int := (a.toNat : Int) - v.toNat - c.toNat
  let res := BitVec.ofInt 8 d
  { res, z := res == 0, n := true, h := decide (a.toNat % 16 < v.toNat % 16 + c.toNat), cy := decide (a.toNat < v.toNat + c.toNat) }

/-- The flags of AND (`h` true), OR and XOR (`h` false): R123, R126, R129. -/
def logic8 (res : Byte) (h : Bool) : AluResult :=
  { res, z := res == 0, n := false, h, cy := false }

/-- The eight operations of the ALU family on A, an operand and the carry flag (R111 to R134). CP's `res` is discarded by
its user. -/
def aluResult (op : AluOp) (a v : Byte) (cy : Bool) : AluResult :=
  match op with
  | .add => add8 a v false
  | .adc => add8 a v cy
  | .sub => sub8 a v false
  | .sbc => sub8 a v cy
  | .and => logic8 (a &&& v) true
  | .xor => logic8 (a ^^^ v) false
  | .or => logic8 (a ||| v) false
  | .cp => sub8 a v false

/-- 8-bit INC (R140, R141); `cy` is the carry flag, which is kept. -/
def inc8 (old : Byte) (cy : Bool) : AluResult :=
  let res := old + 1
  { res, z := res == 0, n := false, h := decide (old.toNat % 16 = 15), cy }

/-- 8-bit DEC (R142, R143); `cy` is the carry flag, which is kept. -/
def dec8 (old : Byte) (cy : Bool) : AluResult :=
  let res := old - 1
  { res, z := res == 0, n := true, h := decide (old.toNat % 16 = 0), cy }

/-- A 16-bit sum with its half-carry (bit 11) and carry (bit 15) (R146). -/
def add16 (a v : Word) : Word × Bool × Bool :=
  let s := a.toNat + v.toNat
  (BitVec.ofNat 16 s, decide (a.toNat % 4096 + v.toNat % 4096 > 4095), decide (s > 65535))

/-- `sext_8` to 16 bits (R82). -/
def sext8 (v : Byte) : Word := v.signExtend 16

/-- `spadd` of R148: SP + e8, with H and Cy from the unsigned byte added to SP's low byte. -/
def spadd (sp : Word) (e : Byte) : Word × Bool × Bool :=
  (sp + sext8 e, decide (sp.toNat % 16 + e.toNat % 16 > 15), decide (sp.toNat % 256 + e.toNat > 255))

/-- The eight rotate and shift functions of R160: the result and the bit shifted out. -/
def rotResult (op : RotOp) (v : Byte) (c : Bool) : Byte × Bool :=
  let bit0 := v.getLsbD 0
  let bit7 := v.getLsbD 7
  let low (b : Bool) : Byte := (BitVec.ofBool b).setWidth 8
  match op with
  | .rlc => ((v <<< 1) ||| low bit7, bit7)
  | .rrc => ((v >>> 1) ||| (low bit0 <<< 7), bit0)
  | .rl => ((v <<< 1) ||| low c, bit7)
  | .rr => ((v >>> 1) ||| (low c <<< 7), bit0)
  | .sla => (v <<< 1, bit7)
  | .sra => ((v >>> 1) ||| (v &&& 0x80), bit0)
  | .swap => ((v <<< 4) ||| (v >>> 4), false)
  | .srl => (v >>> 1, bit0)

/-- `v` with bit `b` cleared (R192). -/
def clearBit (v : Byte) (b : Fin 8) : Byte := v &&& ~~~((1 : Byte) <<< b.val)

/-- `v` with bit `b` set (R194). -/
def setBit (v : Byte) (b : Fin 8) : Byte := v ||| ((1 : Byte) <<< b.val)

/-- DAA (R265): the adjusted A and the new carry, from A and the flags N, H, Cy. -/
def daaResult (a : Byte) (n h cy : Bool) : Byte × Bool :=
  if n then
    let adj := (if h then 0x06 else 0) + (if cy then 0x60 else 0)
    (a - BitVec.ofNat 8 adj, cy)
  else
    let high := cy || decide (a.toNat > 0x99)
    let adj := (if h || decide (a.toNat % 16 > 9) then 0x06 else 0) + (if high then 0x60 else 0)
    (BitVec.ofNat 8 (a.toNat + adj), high)

end Sys2Proof.Machine
end

