-- ==== Sys2Proof/Machine/Operands.lean ====
section
/-! DEFINITION. Reading and writing the registers, every operand form that is not memory, and the conditions. -/

namespace Sys2Proof.Machine

/-- An 8-bit register by name (R84, without the memory operand). -/
def Regs.get8 (g : Regs) (r : Reg8) : Byte :=
  match r with
  | .b => g.b
  | .c => g.c
  | .d => g.d
  | .e => g.e
  | .h => g.h
  | .l => g.l
  | .a => g.a

/-- Write an 8-bit register (R84). -/
def Regs.set8 (g : Regs) (r : Reg8) (v : Byte) : Regs :=
  match r with
  | .b => { g with b := v }
  | .c => { g with c := v }
  | .d => { g with d := v }
  | .e => { g with e := v }
  | .h => { g with h := v }
  | .l => { g with l := v }
  | .a => { g with a := v }

/-- The pair views BC, DE, HL and SP (R12, R85). -/
def Regs.get16 (g : Regs) (r : Reg16) : Word :=
  match r with
  | .bc => bytesToWord g.c g.b
  | .de => bytesToWord g.e g.d
  | .hl => bytesToWord g.l g.h
  | .sp => g.sp

/-- Write a pair: both halves (R12). -/
def Regs.set16 (g : Regs) (r : Reg16) (v : Word) : Regs :=
  match r with
  | .bc => { g with b := hiByte v, c := loByte v }
  | .de => { g with d := hiByte v, e := loByte v }
  | .hl => { g with h := hiByte v, l := loByte v }
  | .sp => { g with sp := v }

/-- `r16stk` (R85): the pairs of PUSH and POP. -/
def Regs.getStk (g : Regs) (r : Reg16Stk) : Word :=
  match r with
  | .bc => bytesToWord g.c g.b
  | .de => bytesToWord g.e g.d
  | .hl => bytesToWord g.l g.h
  | .af => bytesToWord g.f g.a

/-- Write a pair of `r16stk`; writing AF forces the low nibble of F to 0 (R12, R262). -/
def Regs.setStk (g : Regs) (r : Reg16Stk) (v : Word) : Regs :=
  match r with
  | .bc => { g with b := hiByte v, c := loByte v }
  | .de => { g with d := hiByte v, e := loByte v }
  | .hl => { g with h := hiByte v, l := loByte v }
  | .af => { g with a := hiByte v, f := maskF (loByte v) }

def State.get8 (s : State) (r : Reg8) : Byte := s.regs.get8 r
def State.set8 (s : State) (r : Reg8) (v : Byte) : State := { s with regs := s.regs.set8 r v }
def State.get16 (s : State) (r : Reg16) : Word := s.regs.get16 r
def State.set16 (s : State) (r : Reg16) (v : Word) : State := { s with regs := s.regs.set16 r v }
def State.getStk (s : State) (r : Reg16Stk) : Word := s.regs.getStk r
def State.setStk (s : State) (r : Reg16Stk) (v : Word) : State := { s with regs := s.regs.setStk r v }

/-- HL, the memory pointer (R10). -/
def State.hl (s : State) : Word := s.get16 .hl
def State.setSp (s : State) (v : Word) : State := { s with regs := { s.regs with sp := v } }
def State.setPc (s : State) (v : Word) : State := { s with regs := { s.regs with pc := v } }

/-- Write the four flags; the low nibble of F becomes 0 (R13, R14). -/
def State.setFlags (s : State) (z n h cy : Bool) : State :=
  { s with regs := { s.regs with f := maskF (packFlags z n h cy) } }

/-- The flag Z. -/
def State.zf (s : State) : Bool := flagZ s.regs.f
/-- The flag N. -/
def State.nf (s : State) : Bool := flagN s.regs.f
/-- The flag H. -/
def State.hf (s : State) : Bool := flagH s.regs.f
/-- The carry flag `Cy`. -/
def State.cf (s : State) : Bool := flagC s.regs.f

/-- `cond(cc)` (R240). -/
def State.cond (s : State) (cc : Cond) : Bool :=
  match cc with
  | .nz => !s.zf
  | .z => s.zf
  | .nc => !s.cf
  | .c => s.cf

/-- The address `0xFF00 + n` of the high-page forms (R82). -/
def highPage (n : Byte) : Word := bytesToWord n 0xFF

end Sys2Proof.Machine
end

