-- ==== Sys2Proof/Machine/Ops.lean ====
section
/-! DEFINITION. The shared operations: memory, the bus, the timer, the T-cycle, the bus accesses, the stack, faults, taking an
interrupt and returning from one, fetching an instruction, and the stages of a step. -/

namespace Sys2Proof.Machine

/-! Memory: cells listed by bus address, addresses strictly rising (R30; log entries 2 and 3). -/

/-- The byte listed at a cell. -/
def Memory.lookup : Memory → Nat → Option Byte
  | [], _ => none
  | (k, v) :: m, a => if a = k then some v else Memory.lookup m a

/-- Write a cell, keeping the addresses strictly rising. -/
def Memory.store : Memory → Nat → Byte → Memory
  | [], a, v => [(a, v)]
  | (k, w) :: m, a, v =>
    if a < k then (a, v) :: (k, w) :: m
    else if a = k then (a, v) :: m
    else (k, w) :: Memory.store m a v

/-- The bus addresses that are cells of a store (R41): everything below the echo, OAM, HRAM. -/
def isCell (a : Nat) : Bool :=
  decide (a < 0xE000) || (decide (0xFE00 ≤ a) && decide (a < 0xFEA0)) || (decide (0xFF80 ≤ a) && decide (a < 0xFFFF))

/-- The canonical form: addresses strictly rising, each of them a cell. An unlisted cell reads as no listed value
(it is the free value of that cell), so no listed entry can equal what an unlisted address reads as. -/
def Memory.wf (m : Memory) : Bool :=
  decide (m.Pairwise fun x y => x.1 < y.1) && m.all fun x => isCell x.1

/-- The content of a cell: the byte listed, or the initial content `InitMem` (R363). -/
def State.cell (s : State) (a : Nat) : Byte := (s.mem.lookup a).getD (Config.initMem a)

/-- Write a cell. -/
def State.setCell (s : State) (a : Nat) (v : Byte) : State := { s with mem := s.mem.store a v }

/-! The address map (R41, R42). -/

/-- The ranges of the address map. -/
inductive Region
  | rom0
  | romX
  | vram
  | cartRam
  | wram
  | echo
  | oam
  | unusable
  | joypadSerial
  | div
  | tima
  | tma
  | tac
  | iflag
  | ppuRegs
  | unmapped
  | hram
  | ie
deriving DecidableEq, Repr

/-- The range an address falls in (R41); the ranges are disjoint and cover the address space. -/
def region (addr : Word) : Region :=
  let a := addr.toNat
  if a < 0x4000 then .rom0
  else if a < 0x8000 then .romX
  else if a < 0xA000 then .vram
  else if a < 0xC000 then .cartRam
  else if a < 0xE000 then .wram
  else if a < 0xFE00 then .echo
  else if a < 0xFEA0 then .oam
  else if a < 0xFF00 then .unusable
  else if a < 0xFF03 then .joypadSerial
  else if a = 0xFF04 then .div
  else if a = 0xFF05 then .tima
  else if a = 0xFF06 then .tma
  else if a = 0xFF07 then .tac
  else if a = 0xFF0F then .iflag
  else if 0xFF40 ≤ a ∧ a < 0xFF4C then .ppuRegs
  else if a < 0xFF80 then .unmapped
  else if a < 0xFFFF then .hram
  else .ie

/-- True for every address but the I/O addresses no device is assigned to (R53). -/
def mapped (addr : Word) : Bool := region addr != .unmapped

/-- The cell behind an address of a store: the echo is the same cell as `addr - 0x2000` (R46). -/
def cellOf (addr : Word) : Nat :=
  if region addr = .echo then addr.toNat - 0x2000 else addr.toNat

/-- The range of the cartridge that `addr` falls in, if any, behind the baseline device, so that its cells answer (R43, R45). -/
def State.plainCartAt (s : State) (addr : Word) : State :=
  if addr.toNat < 0x8000 then { s with inputs := { s.inputs with cartRom := .plain } }
  else if region addr = .cartRam then { s with inputs := { s.inputs with cartRam := .plain } }
  else s

/-- A byte put into the cell behind an address, from outside the machine; an address with no cell is skipped. Log entry 8. -/
def loadByte (addr : Word) (b : Byte) (s : State) : State :=
  if isCell (cellOf addr) then (s.plainCartAt addr).setCell (cellOf addr) b else s

/-- Bytes put into the cells behind consecutive addresses. Log entry 8. -/
def loadBytes (addr : Word) (bytes : List Byte) (s : State) : State :=
  match bytes with
  | [] => s
  | b :: bs => loadBytes (addr + 1) bs (loadByte addr b s)

/-! The inputs (R5). -/

/-- The first entry of a schedule at a T-cycle. -/
def scheduleAt {α : Type} : List (Nat × α) → Nat → Option α
  | [], _ => none
  | (k, v) :: l, t => if t = k then some v else scheduleAt l t

/-- `ppu_mode` at the moment of an access (R48); `Other` where the schedule lists nothing. Log entry 6. -/
def State.ppuMode (s : State) : PpuMode := (scheduleAt s.inputs.ppuMode s.t).getD .other

/-- VRAM is blocked exactly in Drawing (R44). -/
def State.vramBlocked (s : State) : Bool := s.ppuMode == .drawing

/-- OAM is blocked exactly in OamScan and Drawing (R47). -/
def State.oamBlocked (s : State) : Bool := s.ppuMode == .oamScan || s.ppuMode == .drawing

/-- `ExtIO.read(addr)` (R50, R54): the answer the configuration supplies for this T-cycle, else a free draw. Log entry 5. -/
def extIoRead (s : State) (addr : Word) : Byte := (scheduleAt s.inputs.extIo s.t).getD (Config.extIoDraw s.t addr)

/-- A write delivered to a device outside the core: an output event, no other effect on the core (R50, R54, R57). -/
def State.deliver (s : State) (addr : Word) (v : Byte) : State :=
  { s with outputs := { t := s.t, addr := addr, value := v } :: s.outputs }

/-- `ExtIO.write(addr, v)` (R50, R54). Log entry 5. -/
def extIoWrite (s : State) (addr : Word) (v : Byte) : State := s.deliver addr v

/-- The writes delivered to the cartridge so far, newest first: the events at its addresses. -/
def State.cartWrites (s : State) : List (Word × Byte) :=
  (s.outputs.filter fun e => decide (e.addr.toNat < 0xC000)).map fun e => (e.addr, e.value)

/-- A read from a range of the cartridge behind `d` (R43, R45): the cell of the baseline; from another device the answer the
configuration supplies for this T-cycle, else its own read function. The address is passed unmodified. Log entry 4. -/
def cartRead (d : CartDevice) (s : State) (addr : Word) : Byte :=
  match d with
  | .plain => s.cell addr.toNat
  | .other => (scheduleAt s.inputs.cart s.t).getD (Config.cartRead s.cartWrites s.t addr)

/-- `CartRom.write(addr, v)` (R43): the baseline ignores it; to another device it is delivered. Log entry 4. -/
def cartRomWrite (s : State) (addr : Word) (v : Byte) : State :=
  match s.inputs.cartRom with
  | .plain => s
  | .other => s.deliver addr v

/-- `CartRam.write(addr, v)` (R45): the baseline stores it; to another device it is delivered. Log entry 4. -/
def cartRamWrite (s : State) (addr : Word) (v : Byte) : State :=
  match s.inputs.cartRam with
  | .plain => s.setCell addr.toNat v
  | .other => s.deliver addr v

/-! The interrupt controller (R310 to R317). -/

/-- The bit of a kind in IF and IE (R310). -/
def IntKind.bit (k : IntKind) : BitVec 5 :=
  match k with
  | .vblank => 0b00001
  | .lcdStat => 0b00010
  | .timer => 0b00100
  | .serial => 0b01000
  | .joypad => 0b10000

/-- The address a kind's handler starts at (R321). -/
def IntKind.vector (k : IntKind) : Word :=
  match k with
  | .vblank => 0x0040
  | .lcdStat => 0x0048
  | .timer => 0x0050
  | .serial => 0x0058
  | .joypad => 0x0060

/-- The kind an external collaborator requests (R312). -/
def ExtKind.kind (k : ExtKind) : IntKind :=
  match k with
  | .vblank => .vblank
  | .lcdStat => .lcdStat
  | .serial => .serial
  | .joypad => .joypad

/-- `IF & IE & 0x1F` on the stored bits (R313). -/
def State.pending (s : State) : BitVec 5 := s.iflag &&& s.ie

/-- The lowest-numbered set bit, or none (R313, R317). -/
def priority (p : BitVec 5) : Option IntKind :=
  if p.getLsbD 0 then some .vblank
  else if p.getLsbD 1 then some .lcdStat
  else if p.getLsbD 2 then some .timer
  else if p.getLsbD 3 then some .serial
  else if p.getLsbD 4 then some .joypad
  else none

/-- The bits of the kinds that `ext_irq(t)` lists (R312). Log entry 7. -/
def extRequests : List (Nat × ExtKind) → Nat → BitVec 5
  | [], _ => 0
  | (k, kind) :: l, t => (if t = k then kind.kind.bit else 0) ||| extRequests l t

/-! The timer (R330 to R337). -/

/-- `selbit` (R331): the bit of `div_counter` that TIMA watches. -/
def selBit (sel : BitVec 2) : Nat :=
  match sel.toNat with
  | 0 => 9
  | 1 => 3
  | 2 => 5
  | _ => 7

/-- The enable bit of TAC (R27). -/
def tacEnable (tac : BitVec 3) : Bool := tac.getLsbD 2

/-- The watched bit of the counter. -/
def watchedBit (tac : BitVec 3) (div : Word) : Bool := div.getLsbD (selBit (tac.setWidth 2))

/-- `sig(tac, div)` (R333): the watched bit gated by the enable bit. -/
def timerSignal (tac : BitVec 3) (div : Word) : Bool := tacEnable tac && watchedBit tac div

/-- `IncTima` (R333). -/
def Timer.incTima (tm : Timer) : Timer :=
  let tima := tm.tima + 1
  if tima = 0 then { tm with tima := tima, overflowPending := true, reloadDelay := 4 } else { tm with tima := tima }

/-- Stage 1 of `Timer.tick` (R332): count a pending reload down; at zero load TMA. The Bool says that the Timer interrupt is
requested. -/
def Timer.countReload (tm : Timer) : Timer × Bool :=
  if tm.overflowPending then
    if tm.reloadDelay - 1 = 0 then ({ tm with tima := tm.tma, overflowPending := false, reloadDelay := 0 }, true)
    else ({ tm with reloadDelay := tm.reloadDelay - 1 }, false)
  else (tm, false)

/-- Stages 2 and 3 of `Timer.tick` (R332): count the divider; on a falling edge of the watched bit increment TIMA. -/
def Timer.countDiv (tm : Timer) : Timer :=
  let div := tm.divCounter + 1
  let tm' := { tm with divCounter := div }
  if tacEnable tm.tac && watchedBit tm.tac tm.divCounter && !watchedBit tm.tac div then tm'.incTima else tm'

/-- `Timer.tick()` (R332). -/
def Timer.tick (tm : Timer) : Timer × Bool := (tm.countReload.1.countDiv, tm.countReload.2)

/-- Write to DIV (R334): the counter becomes 0, which can itself be a falling edge. -/
def Timer.writeDiv (tm : Timer) : Timer :=
  let tm' := { tm with divCounter := 0 }
  if timerSignal tm.tac tm.divCounter then tm'.incTima else tm'

/-- Write to TIMA (R336): the value stays and a pending reload is cancelled. -/
def Timer.writeTima (tm : Timer) (v : Byte) : Timer :=
  if tm.overflowPending then { tm with tima := v, overflowPending := false, reloadDelay := 0 } else { tm with tima := v }

/-- Write to TMA (R337). -/
def Timer.writeTma (tm : Timer) (v : Byte) : Timer := { tm with tma := v }

/-- Write to TAC (R335): the edge is detected between the old and the new signal. -/
def Timer.writeTac (tm : Timer) (v : Byte) : Timer :=
  let new := v.setWidth 3
  let tm' := { tm with tac := new }
  if timerSignal tm.tac tm.divCounter && !timerSignal new tm.divCounter then tm'.incTima else tm'

/-! Time (R291, R293). -/

/-- `tick()` (R291): one T-cycle. The timer advances, the external requests of this T-cycle are taken, `t` counts. -/
def tick (s : State) : State :=
  { s with
    timer := s.timer.tick.1
    iflag := s.iflag ||| (if s.timer.tick.2 then IntKind.timer.bit else 0) ||| extRequests s.inputs.extIrq s.t
    t := s.t + 1 }

/-- `Internal()` (R293): one M-cycle, four T-cycles. -/
def internal (s : State) : State := tick (tick (tick (tick s)))

/-! The bus (R40 to R57): it takes no time of its own. -/

/-- `Bus.read(addr)` (R41); `none` where no device is assigned (R53). Reads change no state of the core. -/
def busRead (addr : Word) (s : State) : Option Byte :=
  match region addr with
  | .rom0 => some (cartRead s.inputs.cartRom s addr)
  | .romX => some (cartRead s.inputs.cartRom s addr)
  | .vram => some (if s.vramBlocked then 0xFF else s.cell addr.toNat)
  | .cartRam => some (cartRead s.inputs.cartRam s addr)
  | .wram => some (s.cell addr.toNat)
  | .echo => some (s.cell (cellOf addr))
  | .oam => some (if s.oamBlocked then 0xFF else s.cell addr.toNat)
  | .unusable => some 0xFF
  | .joypadSerial => some (extIoRead s addr)
  | .div => some (hiByte s.timer.divCounter)
  | .tima => some s.timer.tima
  | .tma => some s.timer.tma
  | .tac => some (0b11111#5 ++ s.timer.tac)
  | .iflag => some (0b111#3 ++ s.iflag)
  | .ppuRegs => some (extIoRead s addr)
  | .unmapped => none
  | .hram => some (s.cell addr.toNat)
  | .ie => some (0b111#3 ++ s.ie)

/-- `Bus.write(addr, v)` (R42); `none` where no device is assigned (R53). -/
def busWrite (addr : Word) (v : Byte) (s : State) : Option State :=
  match region addr with
  | .rom0 => some (cartRomWrite s addr v)
  | .romX => some (cartRomWrite s addr v)
  | .vram => some (if s.vramBlocked then s else s.setCell addr.toNat v)
  | .cartRam => some (cartRamWrite s addr v)
  | .wram => some (s.setCell addr.toNat v)
  | .echo => some (s.setCell (cellOf addr) v)
  | .oam => some (if s.oamBlocked then s else s.setCell addr.toNat v)
  | .unusable => some s
  | .joypadSerial => some (extIoWrite s addr v)
  | .div => some { s with timer := s.timer.writeDiv }
  | .tima => some { s with timer := s.timer.writeTima v }
  | .tma => some { s with timer := s.timer.writeTma v }
  | .tac => some { s with timer := s.timer.writeTac v }
  | .iflag => some { s with iflag := v.setWidth 5 }
  | .ppuRegs => some (extIoWrite s addr v)
  | .unmapped => none
  | .hram => some (s.setCell addr.toNat v)
  | .ie => some { s with ie := v.setWidth 5 }

/-! Faults (R300 to R303). -/

/-- The outcome of a machine whose latch holds `c`: no step, the state frozen. -/
def stopped (c : FaultCause) (s : State) : StepResult :=
  match c with
  | .illegalOpcode addr op => .fault (.illegalOpcode addr op s)
  | .unmappedAddress addr => .fault (.unmappedAddress addr s)

/-- `raise X(info)` (R300): latch the fault unless one is latched already, and end the step at this point. -/
def raise (c : FaultCause) (s : State) : StepResult :=
  let c' := s.fault.getD c
  stopped c' { s with fault := some c' }

/-! Bus accesses: one M-cycle each, four ticks and then the access (R292). The rest of the instruction is passed as `k`, so that
nothing after a faulting access happens (R303). -/

/-- `MemRead(addr, 1)` (R292). -/
def memRead (addr : Word) (s : State) (k : Byte → State → StepResult) : StepResult :=
  match busRead addr (internal s) with
  | some v => k v (internal s)
  | none => raise (.unmappedAddress addr) (internal s)

/-- `MemWrite(addr, 1, v)` (R292). -/
def memWrite (addr : Word) (v : Byte) (s : State) (k : State → StepResult) : StepResult :=
  match busWrite addr v (internal s) with
  | some s' => k s'
  | none => raise (.unmappedAddress addr) (internal s)

/-- `Fetch8()` (R16, R294): read at PC, then increment it. -/
def fetch8 (s : State) (k : Byte → State → StepResult) : StepResult :=
  memRead s.regs.pc s fun v s => k v (s.setPc (s.regs.pc + 1))

/-- `Push16(v)` (R17, 00 section 4): decrement then write, high byte first. -/
def push16 (v : Word) (s : State) (k : State → StepResult) : StepResult :=
  let s := s.setSp (s.regs.sp - 1)
  memWrite s.regs.sp (hiByte v) s fun s =>
    let s := s.setSp (s.regs.sp - 1)
    memWrite s.regs.sp (loByte v) s k

/-- `Pop16()` (R17, 00 section 4): read then increment, low byte first. -/
def pop16 (s : State) (k : Word → State → StepResult) : StepResult :=
  memRead s.regs.sp s fun lo s =>
    let s := s.setSp (s.regs.sp + 1)
    memRead s.regs.sp s fun hi s => k (bytesToWord lo hi) (s.setSp (s.regs.sp + 1))

/-! Taking an interrupt and returning from one (R320 to R322). -/

/-- `Dispatch(k)` (R320): clear IME, a scheduled enable and the request; two internal M-cycles; push PC; load the vector; one
internal M-cycle. -/
def dispatch (k : IntKind) (s : State) : StepResult :=
  let s := { s with ime := false, imePending := false, iflag := s.iflag &&& ~~~k.bit }
  push16 s.regs.pc (internal (internal s)) fun s => .next (internal (s.setPc k.vector))

/-- The return from a handler, RETI (R250, R322): pop PC, one internal M-cycle, IME set at once. -/
def returnFromInterrupt (s : State) : StepResult :=
  pop16 s fun addr s => .next { internal (s.setPc addr) with ime := true }

/-! Fetching an instruction, and the stages of a step (R290). `execute` is the meaning of the decoded instruction. -/

/-- Stage 4 and 5 of R290: fetch the opcode byte and, one `Fetch8` each, the further bytes of the instruction (R82, R83, R95);
then run the instruction. Every rule fetches its operand bytes before anything else it does. Log entry 9. -/
def fetchAndRun (execute : Instr → State → StepResult) (s : State) : StepResult :=
  fetch8 s fun op s =>
    match instrLength op with
    | 1 => execute (decodeBytes op 0 0) s
    | 2 => fetch8 s fun b1 s => execute (decodeBytes op b1 0) s
    | _ => fetch8 s fun b1 s => fetch8 s fun b2 s => execute (decodeBytes op b1 b2) s

/-- Stage 2 of R290: apply the enable that EI scheduled. -/
def applyEnable (s : State) : State :=
  if s.imePending then { s with ime := true, imePending := false } else s

/-- `Step()` (R290): no step once a fault is latched; the interrupt check; the scheduled enable; the halted idle M-cycle; fetch
and execute. -/
def runStep (execute : Instr → State → StepResult) (s : State) : StepResult :=
  match s.fault with
  | some c => stopped c s
  | none =>
    match priority s.pending with
    | some k =>
      let s := { s with halted := false }
      if s.ime then dispatch k s else fetchAndRun execute (applyEnable s)
    | none =>
      let s := applyEnable s
      if s.halted then .next (internal s) else fetchAndRun execute s

end Sys2Proof.Machine
end

