-- ==== Sys2Proof/Machine/Alu8.lean ====
section
/-! DEFINITION. 8-bit arithmetic and logic on the accumulator (R110 to R135). -/

namespace Sys2Proof.Machine

/-- The family on A and a value: A receives the result (CP leaves it), all four flags are written. -/
def aluOn (op : AluOp) (v : Byte) (s : State) : StepResult :=
  let r := aluResult op s.regs.a v s.cf
  let s' := if op = .cp then s else s.set8 .a r.res
  .next (s'.setFlags r.z r.n r.h r.cy)

/-- The `[HL]` form: one read M-cycle first. -/
def aluAtHl (op : AluOp) (s : State) : StepResult :=
  memRead s.hl s fun v s => aluOn op v s

/-! One meaning per row of the opcode table. -/

/-- `ADD A,B` (R111). -/
def execAddAB (s : State) : StepResult := aluOn .add (s.get8 .b) s

/-- `ADD A,C` (R111). -/
def execAddAC (s : State) : StepResult := aluOn .add (s.get8 .c) s

/-- `ADD A,D` (R111). -/
def execAddAD (s : State) : StepResult := aluOn .add (s.get8 .d) s

/-- `ADD A,E` (R111). -/
def execAddAE (s : State) : StepResult := aluOn .add (s.get8 .e) s

/-- `ADD A,H` (R111). -/
def execAddAH (s : State) : StepResult := aluOn .add (s.get8 .h) s

/-- `ADD A,L` (R111). -/
def execAddAL (s : State) : StepResult := aluOn .add (s.get8 .l) s

/-- `ADD A,[HL]` (R112). -/
def execAddAAtHl (s : State) : StepResult := aluAtHl .add s

/-- `ADD A,A` (R111). -/
def execAddAA (s : State) : StepResult := aluOn .add (s.get8 .a) s

/-- `ADC A,B` (R114). -/
def execAdcAB (s : State) : StepResult := aluOn .adc (s.get8 .b) s

/-- `ADC A,C` (R114). -/
def execAdcAC (s : State) : StepResult := aluOn .adc (s.get8 .c) s

/-- `ADC A,D` (R114). -/
def execAdcAD (s : State) : StepResult := aluOn .adc (s.get8 .d) s

/-- `ADC A,E` (R114). -/
def execAdcAE (s : State) : StepResult := aluOn .adc (s.get8 .e) s

/-- `ADC A,H` (R114). -/
def execAdcAH (s : State) : StepResult := aluOn .adc (s.get8 .h) s

/-- `ADC A,L` (R114). -/
def execAdcAL (s : State) : StepResult := aluOn .adc (s.get8 .l) s

/-- `ADC A,[HL]` (R115). -/
def execAdcAAtHl (s : State) : StepResult := aluAtHl .adc s

/-- `ADC A,A` (R114). -/
def execAdcAA (s : State) : StepResult := aluOn .adc (s.get8 .a) s

/-- `SUB A,B` (R117). -/
def execSubAB (s : State) : StepResult := aluOn .sub (s.get8 .b) s

/-- `SUB A,C` (R117). -/
def execSubAC (s : State) : StepResult := aluOn .sub (s.get8 .c) s

/-- `SUB A,D` (R117). -/
def execSubAD (s : State) : StepResult := aluOn .sub (s.get8 .d) s

/-- `SUB A,E` (R117). -/
def execSubAE (s : State) : StepResult := aluOn .sub (s.get8 .e) s

/-- `SUB A,H` (R117). -/
def execSubAH (s : State) : StepResult := aluOn .sub (s.get8 .h) s

/-- `SUB A,L` (R117). -/
def execSubAL (s : State) : StepResult := aluOn .sub (s.get8 .l) s

/-- `SUB A,[HL]` (R118). -/
def execSubAAtHl (s : State) : StepResult := aluAtHl .sub s

/-- `SUB A,A` (R117). -/
def execSubAA (s : State) : StepResult := aluOn .sub (s.get8 .a) s

/-- `SBC A,B` (R120). -/
def execSbcAB (s : State) : StepResult := aluOn .sbc (s.get8 .b) s

/-- `SBC A,C` (R120). -/
def execSbcAC (s : State) : StepResult := aluOn .sbc (s.get8 .c) s

/-- `SBC A,D` (R120). -/
def execSbcAD (s : State) : StepResult := aluOn .sbc (s.get8 .d) s

/-- `SBC A,E` (R120). -/
def execSbcAE (s : State) : StepResult := aluOn .sbc (s.get8 .e) s

/-- `SBC A,H` (R120). -/
def execSbcAH (s : State) : StepResult := aluOn .sbc (s.get8 .h) s

/-- `SBC A,L` (R120). -/
def execSbcAL (s : State) : StepResult := aluOn .sbc (s.get8 .l) s

/-- `SBC A,[HL]` (R121). -/
def execSbcAAtHl (s : State) : StepResult := aluAtHl .sbc s

/-- `SBC A,A` (R120). -/
def execSbcAA (s : State) : StepResult := aluOn .sbc (s.get8 .a) s

/-- `AND A,B` (R123). -/
def execAndAB (s : State) : StepResult := aluOn .and (s.get8 .b) s

/-- `AND A,C` (R123). -/
def execAndAC (s : State) : StepResult := aluOn .and (s.get8 .c) s

/-- `AND A,D` (R123). -/
def execAndAD (s : State) : StepResult := aluOn .and (s.get8 .d) s

/-- `AND A,E` (R123). -/
def execAndAE (s : State) : StepResult := aluOn .and (s.get8 .e) s

/-- `AND A,H` (R123). -/
def execAndAH (s : State) : StepResult := aluOn .and (s.get8 .h) s

/-- `AND A,L` (R123). -/
def execAndAL (s : State) : StepResult := aluOn .and (s.get8 .l) s

/-- `AND A,[HL]` (R124). -/
def execAndAAtHl (s : State) : StepResult := aluAtHl .and s

/-- `AND A,A` (R123). -/
def execAndAA (s : State) : StepResult := aluOn .and (s.get8 .a) s

/-- `XOR A,B` (R129). -/
def execXorAB (s : State) : StepResult := aluOn .xor (s.get8 .b) s

/-- `XOR A,C` (R129). -/
def execXorAC (s : State) : StepResult := aluOn .xor (s.get8 .c) s

/-- `XOR A,D` (R129). -/
def execXorAD (s : State) : StepResult := aluOn .xor (s.get8 .d) s

/-- `XOR A,E` (R129). -/
def execXorAE (s : State) : StepResult := aluOn .xor (s.get8 .e) s

/-- `XOR A,H` (R129). -/
def execXorAH (s : State) : StepResult := aluOn .xor (s.get8 .h) s

/-- `XOR A,L` (R129). -/
def execXorAL (s : State) : StepResult := aluOn .xor (s.get8 .l) s

/-- `XOR A,[HL]` (R130). -/
def execXorAAtHl (s : State) : StepResult := aluAtHl .xor s

/-- `XOR A,A` (R129). -/
def execXorAA (s : State) : StepResult := aluOn .xor (s.get8 .a) s

/-- `OR A,B` (R126). -/
def execOrAB (s : State) : StepResult := aluOn .or (s.get8 .b) s

/-- `OR A,C` (R126). -/
def execOrAC (s : State) : StepResult := aluOn .or (s.get8 .c) s

/-- `OR A,D` (R126). -/
def execOrAD (s : State) : StepResult := aluOn .or (s.get8 .d) s

/-- `OR A,E` (R126). -/
def execOrAE (s : State) : StepResult := aluOn .or (s.get8 .e) s

/-- `OR A,H` (R126). -/
def execOrAH (s : State) : StepResult := aluOn .or (s.get8 .h) s

/-- `OR A,L` (R126). -/
def execOrAL (s : State) : StepResult := aluOn .or (s.get8 .l) s

/-- `OR A,[HL]` (R127). -/
def execOrAAtHl (s : State) : StepResult := aluAtHl .or s

/-- `OR A,A` (R126). -/
def execOrAA (s : State) : StepResult := aluOn .or (s.get8 .a) s

/-- `CP A,B` (R132). -/
def execCpAB (s : State) : StepResult := aluOn .cp (s.get8 .b) s

/-- `CP A,C` (R132). -/
def execCpAC (s : State) : StepResult := aluOn .cp (s.get8 .c) s

/-- `CP A,D` (R132). -/
def execCpAD (s : State) : StepResult := aluOn .cp (s.get8 .d) s

/-- `CP A,E` (R132). -/
def execCpAE (s : State) : StepResult := aluOn .cp (s.get8 .e) s

/-- `CP A,H` (R132). -/
def execCpAH (s : State) : StepResult := aluOn .cp (s.get8 .h) s

/-- `CP A,L` (R132). -/
def execCpAL (s : State) : StepResult := aluOn .cp (s.get8 .l) s

/-- `CP A,[HL]` (R133). -/
def execCpAAtHl (s : State) : StepResult := aluAtHl .cp s

/-- `CP A,A` (R132). -/
def execCpAA (s : State) : StepResult := aluOn .cp (s.get8 .a) s

/-- `ADD A,n8` (R113). -/
def execAddAN8 (n : Byte) (s : State) : StepResult := aluOn .add n s

/-- `ADC A,n8` (R116). -/
def execAdcAN8 (n : Byte) (s : State) : StepResult := aluOn .adc n s

/-- `SUB A,n8` (R119). -/
def execSubAN8 (n : Byte) (s : State) : StepResult := aluOn .sub n s

/-- `SBC A,n8` (R122). -/
def execSbcAN8 (n : Byte) (s : State) : StepResult := aluOn .sbc n s

/-- `AND A,n8` (R125). -/
def execAndAN8 (n : Byte) (s : State) : StepResult := aluOn .and n s

/-- `XOR A,n8` (R131). -/
def execXorAN8 (n : Byte) (s : State) : StepResult := aluOn .xor n s

/-- `OR A,n8` (R128). -/
def execOrAN8 (n : Byte) (s : State) : StepResult := aluOn .or n s

/-- `CP A,n8` (R134). -/
def execCpAN8 (n : Byte) (s : State) : StepResult := aluOn .cp n s

end Sys2Proof.Machine
end

