-- ==== Sys2Proof/Machine/BitOps.lean ====
section
/-! DEFINITION. Bit test, reset and set (R190 to R195). -/

namespace Sys2Proof.Machine

/-- The flags of BIT (R190): Z says that the bit is 0, N cleared, H set, Cy kept. -/
def bitFlags (b : Fin 8) (v : Byte) (s : State) : State := s.setFlags (!v.getLsbD b.val) false true s.cf

/-- `BIT b,r8` (R190). -/
def bitReg (b : Fin 8) (r : Reg8) (s : State) : StepResult := .next (bitFlags b (s.get8 r) s)

/-- `BIT b,[HL]` (R191): a read and no write. -/
def bitAtHl (b : Fin 8) (s : State) : StepResult :=
  memRead s.hl s fun v s => .next (bitFlags b v s)

/-- `RES b,r8` (R192). -/
def resReg (b : Fin 8) (r : Reg8) (s : State) : StepResult := .next (s.set8 r (clearBit (s.get8 r) b))

/-- `RES b,[HL]` (R193). -/
def resAtHl (b : Fin 8) (s : State) : StepResult :=
  memRead s.hl s fun v s => memWrite s.hl (clearBit v b) s fun s => .next s

/-- `SET b,r8` (R194). -/
def setReg (b : Fin 8) (r : Reg8) (s : State) : StepResult := .next (s.set8 r (setBit (s.get8 r) b))

/-- `SET b,[HL]` (R195). -/
def setAtHl (b : Fin 8) (s : State) : StepResult :=
  memRead s.hl s fun v s => memWrite s.hl (setBit v b) s fun s => .next s

/-! One meaning per row of the opcode table. -/

/-- `BIT 0,B` (R190). -/
def execBit0B (s : State) : StepResult := bitReg 0 .b s

/-- `BIT 0,C` (R190). -/
def execBit0C (s : State) : StepResult := bitReg 0 .c s

/-- `BIT 0,D` (R190). -/
def execBit0D (s : State) : StepResult := bitReg 0 .d s

/-- `BIT 0,E` (R190). -/
def execBit0E (s : State) : StepResult := bitReg 0 .e s

/-- `BIT 0,H` (R190). -/
def execBit0H (s : State) : StepResult := bitReg 0 .h s

/-- `BIT 0,L` (R190). -/
def execBit0L (s : State) : StepResult := bitReg 0 .l s

/-- `BIT 0,[HL]` (R191). -/
def execBit0AtHl (s : State) : StepResult := bitAtHl 0 s

/-- `BIT 0,A` (R190). -/
def execBit0A (s : State) : StepResult := bitReg 0 .a s

/-- `BIT 1,B` (R190). -/
def execBit1B (s : State) : StepResult := bitReg 1 .b s

/-- `BIT 1,C` (R190). -/
def execBit1C (s : State) : StepResult := bitReg 1 .c s

/-- `BIT 1,D` (R190). -/
def execBit1D (s : State) : StepResult := bitReg 1 .d s

/-- `BIT 1,E` (R190). -/
def execBit1E (s : State) : StepResult := bitReg 1 .e s

/-- `BIT 1,H` (R190). -/
def execBit1H (s : State) : StepResult := bitReg 1 .h s

/-- `BIT 1,L` (R190). -/
def execBit1L (s : State) : StepResult := bitReg 1 .l s

/-- `BIT 1,[HL]` (R191). -/
def execBit1AtHl (s : State) : StepResult := bitAtHl 1 s

/-- `BIT 1,A` (R190). -/
def execBit1A (s : State) : StepResult := bitReg 1 .a s

/-- `BIT 2,B` (R190). -/
def execBit2B (s : State) : StepResult := bitReg 2 .b s

/-- `BIT 2,C` (R190). -/
def execBit2C (s : State) : StepResult := bitReg 2 .c s

/-- `BIT 2,D` (R190). -/
def execBit2D (s : State) : StepResult := bitReg 2 .d s

/-- `BIT 2,E` (R190). -/
def execBit2E (s : State) : StepResult := bitReg 2 .e s

/-- `BIT 2,H` (R190). -/
def execBit2H (s : State) : StepResult := bitReg 2 .h s

/-- `BIT 2,L` (R190). -/
def execBit2L (s : State) : StepResult := bitReg 2 .l s

/-- `BIT 2,[HL]` (R191). -/
def execBit2AtHl (s : State) : StepResult := bitAtHl 2 s

/-- `BIT 2,A` (R190). -/
def execBit2A (s : State) : StepResult := bitReg 2 .a s

/-- `BIT 3,B` (R190). -/
def execBit3B (s : State) : StepResult := bitReg 3 .b s

/-- `BIT 3,C` (R190). -/
def execBit3C (s : State) : StepResult := bitReg 3 .c s

/-- `BIT 3,D` (R190). -/
def execBit3D (s : State) : StepResult := bitReg 3 .d s

/-- `BIT 3,E` (R190). -/
def execBit3E (s : State) : StepResult := bitReg 3 .e s

/-- `BIT 3,H` (R190). -/
def execBit3H (s : State) : StepResult := bitReg 3 .h s

/-- `BIT 3,L` (R190). -/
def execBit3L (s : State) : StepResult := bitReg 3 .l s

/-- `BIT 3,[HL]` (R191). -/
def execBit3AtHl (s : State) : StepResult := bitAtHl 3 s

/-- `BIT 3,A` (R190). -/
def execBit3A (s : State) : StepResult := bitReg 3 .a s

/-- `BIT 4,B` (R190). -/
def execBit4B (s : State) : StepResult := bitReg 4 .b s

/-- `BIT 4,C` (R190). -/
def execBit4C (s : State) : StepResult := bitReg 4 .c s

/-- `BIT 4,D` (R190). -/
def execBit4D (s : State) : StepResult := bitReg 4 .d s

/-- `BIT 4,E` (R190). -/
def execBit4E (s : State) : StepResult := bitReg 4 .e s

/-- `BIT 4,H` (R190). -/
def execBit4H (s : State) : StepResult := bitReg 4 .h s

/-- `BIT 4,L` (R190). -/
def execBit4L (s : State) : StepResult := bitReg 4 .l s

/-- `BIT 4,[HL]` (R191). -/
def execBit4AtHl (s : State) : StepResult := bitAtHl 4 s

/-- `BIT 4,A` (R190). -/
def execBit4A (s : State) : StepResult := bitReg 4 .a s

/-- `BIT 5,B` (R190). -/
def execBit5B (s : State) : StepResult := bitReg 5 .b s

/-- `BIT 5,C` (R190). -/
def execBit5C (s : State) : StepResult := bitReg 5 .c s

/-- `BIT 5,D` (R190). -/
def execBit5D (s : State) : StepResult := bitReg 5 .d s

/-- `BIT 5,E` (R190). -/
def execBit5E (s : State) : StepResult := bitReg 5 .e s

/-- `BIT 5,H` (R190). -/
def execBit5H (s : State) : StepResult := bitReg 5 .h s

/-- `BIT 5,L` (R190). -/
def execBit5L (s : State) : StepResult := bitReg 5 .l s

/-- `BIT 5,[HL]` (R191). -/
def execBit5AtHl (s : State) : StepResult := bitAtHl 5 s

/-- `BIT 5,A` (R190). -/
def execBit5A (s : State) : StepResult := bitReg 5 .a s

/-- `BIT 6,B` (R190). -/
def execBit6B (s : State) : StepResult := bitReg 6 .b s

/-- `BIT 6,C` (R190). -/
def execBit6C (s : State) : StepResult := bitReg 6 .c s

/-- `BIT 6,D` (R190). -/
def execBit6D (s : State) : StepResult := bitReg 6 .d s

/-- `BIT 6,E` (R190). -/
def execBit6E (s : State) : StepResult := bitReg 6 .e s

/-- `BIT 6,H` (R190). -/
def execBit6H (s : State) : StepResult := bitReg 6 .h s

/-- `BIT 6,L` (R190). -/
def execBit6L (s : State) : StepResult := bitReg 6 .l s

/-- `BIT 6,[HL]` (R191). -/
def execBit6AtHl (s : State) : StepResult := bitAtHl 6 s

/-- `BIT 6,A` (R190). -/
def execBit6A (s : State) : StepResult := bitReg 6 .a s

/-- `BIT 7,B` (R190). -/
def execBit7B (s : State) : StepResult := bitReg 7 .b s

/-- `BIT 7,C` (R190). -/
def execBit7C (s : State) : StepResult := bitReg 7 .c s

/-- `BIT 7,D` (R190). -/
def execBit7D (s : State) : StepResult := bitReg 7 .d s

/-- `BIT 7,E` (R190). -/
def execBit7E (s : State) : StepResult := bitReg 7 .e s

/-- `BIT 7,H` (R190). -/
def execBit7H (s : State) : StepResult := bitReg 7 .h s

/-- `BIT 7,L` (R190). -/
def execBit7L (s : State) : StepResult := bitReg 7 .l s

/-- `BIT 7,[HL]` (R191). -/
def execBit7AtHl (s : State) : StepResult := bitAtHl 7 s

/-- `BIT 7,A` (R190). -/
def execBit7A (s : State) : StepResult := bitReg 7 .a s

/-- `RES 0,B` (R192). -/
def execRes0B (s : State) : StepResult := resReg 0 .b s

/-- `RES 0,C` (R192). -/
def execRes0C (s : State) : StepResult := resReg 0 .c s

/-- `RES 0,D` (R192). -/
def execRes0D (s : State) : StepResult := resReg 0 .d s

/-- `RES 0,E` (R192). -/
def execRes0E (s : State) : StepResult := resReg 0 .e s

/-- `RES 0,H` (R192). -/
def execRes0H (s : State) : StepResult := resReg 0 .h s

/-- `RES 0,L` (R192). -/
def execRes0L (s : State) : StepResult := resReg 0 .l s

/-- `RES 0,[HL]` (R193). -/
def execRes0AtHl (s : State) : StepResult := resAtHl 0 s

/-- `RES 0,A` (R192). -/
def execRes0A (s : State) : StepResult := resReg 0 .a s

/-- `RES 1,B` (R192). -/
def execRes1B (s : State) : StepResult := resReg 1 .b s

/-- `RES 1,C` (R192). -/
def execRes1C (s : State) : StepResult := resReg 1 .c s

/-- `RES 1,D` (R192). -/
def execRes1D (s : State) : StepResult := resReg 1 .d s

/-- `RES 1,E` (R192). -/
def execRes1E (s : State) : StepResult := resReg 1 .e s

/-- `RES 1,H` (R192). -/
def execRes1H (s : State) : StepResult := resReg 1 .h s

/-- `RES 1,L` (R192). -/
def execRes1L (s : State) : StepResult := resReg 1 .l s

/-- `RES 1,[HL]` (R193). -/
def execRes1AtHl (s : State) : StepResult := resAtHl 1 s

/-- `RES 1,A` (R192). -/
def execRes1A (s : State) : StepResult := resReg 1 .a s

/-- `RES 2,B` (R192). -/
def execRes2B (s : State) : StepResult := resReg 2 .b s

/-- `RES 2,C` (R192). -/
def execRes2C (s : State) : StepResult := resReg 2 .c s

/-- `RES 2,D` (R192). -/
def execRes2D (s : State) : StepResult := resReg 2 .d s

/-- `RES 2,E` (R192). -/
def execRes2E (s : State) : StepResult := resReg 2 .e s

/-- `RES 2,H` (R192). -/
def execRes2H (s : State) : StepResult := resReg 2 .h s

/-- `RES 2,L` (R192). -/
def execRes2L (s : State) : StepResult := resReg 2 .l s

/-- `RES 2,[HL]` (R193). -/
def execRes2AtHl (s : State) : StepResult := resAtHl 2 s

/-- `RES 2,A` (R192). -/
def execRes2A (s : State) : StepResult := resReg 2 .a s

/-- `RES 3,B` (R192). -/
def execRes3B (s : State) : StepResult := resReg 3 .b s

/-- `RES 3,C` (R192). -/
def execRes3C (s : State) : StepResult := resReg 3 .c s

/-- `RES 3,D` (R192). -/
def execRes3D (s : State) : StepResult := resReg 3 .d s

/-- `RES 3,E` (R192). -/
def execRes3E (s : State) : StepResult := resReg 3 .e s

/-- `RES 3,H` (R192). -/
def execRes3H (s : State) : StepResult := resReg 3 .h s

/-- `RES 3,L` (R192). -/
def execRes3L (s : State) : StepResult := resReg 3 .l s

/-- `RES 3,[HL]` (R193). -/
def execRes3AtHl (s : State) : StepResult := resAtHl 3 s

/-- `RES 3,A` (R192). -/
def execRes3A (s : State) : StepResult := resReg 3 .a s

/-- `RES 4,B` (R192). -/
def execRes4B (s : State) : StepResult := resReg 4 .b s

/-- `RES 4,C` (R192). -/
def execRes4C (s : State) : StepResult := resReg 4 .c s

/-- `RES 4,D` (R192). -/
def execRes4D (s : State) : StepResult := resReg 4 .d s

/-- `RES 4,E` (R192). -/
def execRes4E (s : State) : StepResult := resReg 4 .e s

/-- `RES 4,H` (R192). -/
def execRes4H (s : State) : StepResult := resReg 4 .h s

/-- `RES 4,L` (R192). -/
def execRes4L (s : State) : StepResult := resReg 4 .l s

/-- `RES 4,[HL]` (R193). -/
def execRes4AtHl (s : State) : StepResult := resAtHl 4 s

/-- `RES 4,A` (R192). -/
def execRes4A (s : State) : StepResult := resReg 4 .a s

/-- `RES 5,B` (R192). -/
def execRes5B (s : State) : StepResult := resReg 5 .b s

/-- `RES 5,C` (R192). -/
def execRes5C (s : State) : StepResult := resReg 5 .c s

/-- `RES 5,D` (R192). -/
def execRes5D (s : State) : StepResult := resReg 5 .d s

/-- `RES 5,E` (R192). -/
def execRes5E (s : State) : StepResult := resReg 5 .e s

/-- `RES 5,H` (R192). -/
def execRes5H (s : State) : StepResult := resReg 5 .h s

/-- `RES 5,L` (R192). -/
def execRes5L (s : State) : StepResult := resReg 5 .l s

/-- `RES 5,[HL]` (R193). -/
def execRes5AtHl (s : State) : StepResult := resAtHl 5 s

/-- `RES 5,A` (R192). -/
def execRes5A (s : State) : StepResult := resReg 5 .a s

/-- `RES 6,B` (R192). -/
def execRes6B (s : State) : StepResult := resReg 6 .b s

/-- `RES 6,C` (R192). -/
def execRes6C (s : State) : StepResult := resReg 6 .c s

/-- `RES 6,D` (R192). -/
def execRes6D (s : State) : StepResult := resReg 6 .d s

/-- `RES 6,E` (R192). -/
def execRes6E (s : State) : StepResult := resReg 6 .e s

/-- `RES 6,H` (R192). -/
def execRes6H (s : State) : StepResult := resReg 6 .h s

/-- `RES 6,L` (R192). -/
def execRes6L (s : State) : StepResult := resReg 6 .l s

/-- `RES 6,[HL]` (R193). -/
def execRes6AtHl (s : State) : StepResult := resAtHl 6 s

/-- `RES 6,A` (R192). -/
def execRes6A (s : State) : StepResult := resReg 6 .a s

/-- `RES 7,B` (R192). -/
def execRes7B (s : State) : StepResult := resReg 7 .b s

/-- `RES 7,C` (R192). -/
def execRes7C (s : State) : StepResult := resReg 7 .c s

/-- `RES 7,D` (R192). -/
def execRes7D (s : State) : StepResult := resReg 7 .d s

/-- `RES 7,E` (R192). -/
def execRes7E (s : State) : StepResult := resReg 7 .e s

/-- `RES 7,H` (R192). -/
def execRes7H (s : State) : StepResult := resReg 7 .h s

/-- `RES 7,L` (R192). -/
def execRes7L (s : State) : StepResult := resReg 7 .l s

/-- `RES 7,[HL]` (R193). -/
def execRes7AtHl (s : State) : StepResult := resAtHl 7 s

/-- `RES 7,A` (R192). -/
def execRes7A (s : State) : StepResult := resReg 7 .a s

/-- `SET 0,B` (R194). -/
def execSet0B (s : State) : StepResult := setReg 0 .b s

/-- `SET 0,C` (R194). -/
def execSet0C (s : State) : StepResult := setReg 0 .c s

/-- `SET 0,D` (R194). -/
def execSet0D (s : State) : StepResult := setReg 0 .d s

/-- `SET 0,E` (R194). -/
def execSet0E (s : State) : StepResult := setReg 0 .e s

/-- `SET 0,H` (R194). -/
def execSet0H (s : State) : StepResult := setReg 0 .h s

/-- `SET 0,L` (R194). -/
def execSet0L (s : State) : StepResult := setReg 0 .l s

/-- `SET 0,[HL]` (R195). -/
def execSet0AtHl (s : State) : StepResult := setAtHl 0 s

/-- `SET 0,A` (R194). -/
def execSet0A (s : State) : StepResult := setReg 0 .a s

/-- `SET 1,B` (R194). -/
def execSet1B (s : State) : StepResult := setReg 1 .b s

/-- `SET 1,C` (R194). -/
def execSet1C (s : State) : StepResult := setReg 1 .c s

/-- `SET 1,D` (R194). -/
def execSet1D (s : State) : StepResult := setReg 1 .d s

/-- `SET 1,E` (R194). -/
def execSet1E (s : State) : StepResult := setReg 1 .e s

/-- `SET 1,H` (R194). -/
def execSet1H (s : State) : StepResult := setReg 1 .h s

/-- `SET 1,L` (R194). -/
def execSet1L (s : State) : StepResult := setReg 1 .l s

/-- `SET 1,[HL]` (R195). -/
def execSet1AtHl (s : State) : StepResult := setAtHl 1 s

/-- `SET 1,A` (R194). -/
def execSet1A (s : State) : StepResult := setReg 1 .a s

/-- `SET 2,B` (R194). -/
def execSet2B (s : State) : StepResult := setReg 2 .b s

/-- `SET 2,C` (R194). -/
def execSet2C (s : State) : StepResult := setReg 2 .c s

/-- `SET 2,D` (R194). -/
def execSet2D (s : State) : StepResult := setReg 2 .d s

/-- `SET 2,E` (R194). -/
def execSet2E (s : State) : StepResult := setReg 2 .e s

/-- `SET 2,H` (R194). -/
def execSet2H (s : State) : StepResult := setReg 2 .h s

/-- `SET 2,L` (R194). -/
def execSet2L (s : State) : StepResult := setReg 2 .l s

/-- `SET 2,[HL]` (R195). -/
def execSet2AtHl (s : State) : StepResult := setAtHl 2 s

/-- `SET 2,A` (R194). -/
def execSet2A (s : State) : StepResult := setReg 2 .a s

/-- `SET 3,B` (R194). -/
def execSet3B (s : State) : StepResult := setReg 3 .b s

/-- `SET 3,C` (R194). -/
def execSet3C (s : State) : StepResult := setReg 3 .c s

/-- `SET 3,D` (R194). -/
def execSet3D (s : State) : StepResult := setReg 3 .d s

/-- `SET 3,E` (R194). -/
def execSet3E (s : State) : StepResult := setReg 3 .e s

/-- `SET 3,H` (R194). -/
def execSet3H (s : State) : StepResult := setReg 3 .h s

/-- `SET 3,L` (R194). -/
def execSet3L (s : State) : StepResult := setReg 3 .l s

/-- `SET 3,[HL]` (R195). -/
def execSet3AtHl (s : State) : StepResult := setAtHl 3 s

/-- `SET 3,A` (R194). -/
def execSet3A (s : State) : StepResult := setReg 3 .a s

/-- `SET 4,B` (R194). -/
def execSet4B (s : State) : StepResult := setReg 4 .b s

/-- `SET 4,C` (R194). -/
def execSet4C (s : State) : StepResult := setReg 4 .c s

/-- `SET 4,D` (R194). -/
def execSet4D (s : State) : StepResult := setReg 4 .d s

/-- `SET 4,E` (R194). -/
def execSet4E (s : State) : StepResult := setReg 4 .e s

/-- `SET 4,H` (R194). -/
def execSet4H (s : State) : StepResult := setReg 4 .h s

/-- `SET 4,L` (R194). -/
def execSet4L (s : State) : StepResult := setReg 4 .l s

/-- `SET 4,[HL]` (R195). -/
def execSet4AtHl (s : State) : StepResult := setAtHl 4 s

/-- `SET 4,A` (R194). -/
def execSet4A (s : State) : StepResult := setReg 4 .a s

/-- `SET 5,B` (R194). -/
def execSet5B (s : State) : StepResult := setReg 5 .b s

/-- `SET 5,C` (R194). -/
def execSet5C (s : State) : StepResult := setReg 5 .c s

/-- `SET 5,D` (R194). -/
def execSet5D (s : State) : StepResult := setReg 5 .d s

/-- `SET 5,E` (R194). -/
def execSet5E (s : State) : StepResult := setReg 5 .e s

/-- `SET 5,H` (R194). -/
def execSet5H (s : State) : StepResult := setReg 5 .h s

/-- `SET 5,L` (R194). -/
def execSet5L (s : State) : StepResult := setReg 5 .l s

/-- `SET 5,[HL]` (R195). -/
def execSet5AtHl (s : State) : StepResult := setAtHl 5 s

/-- `SET 5,A` (R194). -/
def execSet5A (s : State) : StepResult := setReg 5 .a s

/-- `SET 6,B` (R194). -/
def execSet6B (s : State) : StepResult := setReg 6 .b s

/-- `SET 6,C` (R194). -/
def execSet6C (s : State) : StepResult := setReg 6 .c s

/-- `SET 6,D` (R194). -/
def execSet6D (s : State) : StepResult := setReg 6 .d s

/-- `SET 6,E` (R194). -/
def execSet6E (s : State) : StepResult := setReg 6 .e s

/-- `SET 6,H` (R194). -/
def execSet6H (s : State) : StepResult := setReg 6 .h s

/-- `SET 6,L` (R194). -/
def execSet6L (s : State) : StepResult := setReg 6 .l s

/-- `SET 6,[HL]` (R195). -/
def execSet6AtHl (s : State) : StepResult := setAtHl 6 s

/-- `SET 6,A` (R194). -/
def execSet6A (s : State) : StepResult := setReg 6 .a s

/-- `SET 7,B` (R194). -/
def execSet7B (s : State) : StepResult := setReg 7 .b s

/-- `SET 7,C` (R194). -/
def execSet7C (s : State) : StepResult := setReg 7 .c s

/-- `SET 7,D` (R194). -/
def execSet7D (s : State) : StepResult := setReg 7 .d s

/-- `SET 7,E` (R194). -/
def execSet7E (s : State) : StepResult := setReg 7 .e s

/-- `SET 7,H` (R194). -/
def execSet7H (s : State) : StepResult := setReg 7 .h s

/-- `SET 7,L` (R194). -/
def execSet7L (s : State) : StepResult := setReg 7 .l s

/-- `SET 7,[HL]` (R195). -/
def execSet7AtHl (s : State) : StepResult := setAtHl 7 s

/-- `SET 7,A` (R194). -/
def execSet7A (s : State) : StepResult := setReg 7 .a s

end Sys2Proof.Machine
end

