-- ==== Sys2Proof/Machine/Control.lean ====
section
/-! DEFINITION. Jumps, calls, returns, restarts (R240 to R252). PC is the address of the next instruction when a meaning runs (R16). -/

namespace Sys2Proof.Machine

/-- `JP n16` (R241). -/
def jump (addr : Word) (s : State) : StepResult := .next (internal (s.setPc addr))

/-- `JP cc,n16` (R242). -/
def jumpIf (cc : Cond) (addr : Word) (s : State) : StepResult :=
  if s.cond cc then jump addr s else .next s

/-- `JR e8` (R244). -/
def jumpRelative (e : Byte) (s : State) : StepResult := jump (s.regs.pc + sext8 e) s

/-- `JR cc,e8` (R245). -/
def jumpRelativeIf (cc : Cond) (e : Byte) (s : State) : StepResult :=
  if s.cond cc then jumpRelative e s else .next s

/-- `CALL n16` (R246): one internal M-cycle, then the push of the return address. -/
def call (addr : Word) (s : State) : StepResult :=
  push16 s.regs.pc (internal s) fun s => .next (s.setPc addr)

/-- `CALL cc,n16` (R247). -/
def callIf (cc : Cond) (addr : Word) (s : State) : StepResult :=
  if s.cond cc then call addr s else .next s

/-- `RST vec` (R251): a call of a fixed address. -/
def restart (vec : Word) (s : State) : StepResult := call vec s

/-- `RET` (R248). -/
def ret (s : State) : StepResult :=
  pop16 s fun addr s => .next (internal (s.setPc addr))

/-- `RET cc` (R249): one internal M-cycle before the pop, taken or not. -/
def retIf (cc : Cond) (s : State) : StepResult :=
  if s.cond cc then ret (internal s) else .next (internal s)

/-! One meaning per row of the opcode table. -/

/-- `JR e8` (R244). -/
def execJrE8 (e : Byte) (s : State) : StepResult := jumpRelative e s

/-- `JR NZ,e8` (R245). -/
def execJrNzE8 (e : Byte) (s : State) : StepResult := jumpRelativeIf .nz e s

/-- `JR Z,e8` (R245). -/
def execJrZE8 (e : Byte) (s : State) : StepResult := jumpRelativeIf .z e s

/-- `JR NC,e8` (R245). -/
def execJrNcE8 (e : Byte) (s : State) : StepResult := jumpRelativeIf .nc e s

/-- `JR C,e8` (R245). -/
def execJrCE8 (e : Byte) (s : State) : StepResult := jumpRelativeIf .c e s

/-- `RET NZ` (R249). -/
def execRetNz (s : State) : StepResult := retIf .nz s

/-- `JP NZ,n16` (R242). -/
def execJpNzN16 (n : Word) (s : State) : StepResult := jumpIf .nz n s

/-- `JP n16` (R241). -/
def execJpN16 (n : Word) (s : State) : StepResult := jump n s

/-- `CALL NZ,n16` (R247). -/
def execCallNzN16 (n : Word) (s : State) : StepResult := callIf .nz n s

/-- `RST 0x00` (R251). -/
def execRst00 (s : State) : StepResult := restart 0x00 s

/-- `RET Z` (R249). -/
def execRetZ (s : State) : StepResult := retIf .z s

/-- `RET` (R248). -/
def execRet (s : State) : StepResult := ret s

/-- `JP Z,n16` (R242). -/
def execJpZN16 (n : Word) (s : State) : StepResult := jumpIf .z n s

/-- `CALL Z,n16` (R247). -/
def execCallZN16 (n : Word) (s : State) : StepResult := callIf .z n s

/-- `CALL n16` (R246). -/
def execCallN16 (n : Word) (s : State) : StepResult := call n s

/-- `RST 0x08` (R251). -/
def execRst08 (s : State) : StepResult := restart 0x08 s

/-- `RET NC` (R249). -/
def execRetNc (s : State) : StepResult := retIf .nc s

/-- `JP NC,n16` (R242). -/
def execJpNcN16 (n : Word) (s : State) : StepResult := jumpIf .nc n s

/-- `CALL NC,n16` (R247). -/
def execCallNcN16 (n : Word) (s : State) : StepResult := callIf .nc n s

/-- `RST 0x10` (R251). -/
def execRst10 (s : State) : StepResult := restart 0x10 s

/-- `RET C` (R249). -/
def execRetC (s : State) : StepResult := retIf .c s

/-- `RETI` (R250). -/
def execReti (s : State) : StepResult := returnFromInterrupt s

/-- `JP C,n16` (R242). -/
def execJpCN16 (n : Word) (s : State) : StepResult := jumpIf .c n s

/-- `CALL C,n16` (R247). -/
def execCallCN16 (n : Word) (s : State) : StepResult := callIf .c n s

/-- `RST 0x18` (R251). -/
def execRst18 (s : State) : StepResult := restart 0x18 s

/-- `RST 0x20` (R251). -/
def execRst20 (s : State) : StepResult := restart 0x20 s

/-- `JP HL` (R243). -/
def execJpHl (s : State) : StepResult := .next (s.setPc s.hl)

/-- `RST 0x28` (R251). -/
def execRst28 (s : State) : StepResult := restart 0x28 s

/-- `RST 0x30` (R251). -/
def execRst30 (s : State) : StepResult := restart 0x30 s

/-- `RST 0x38` (R251). -/
def execRst38 (s : State) : StepResult := restart 0x38 s

end Sys2Proof.Machine
end

