-- ==== Sys2Proof/Machine/IncDec.lean ====
section
/-! DEFINITION. INC, DEC and 16-bit arithmetic (R140 to R148). -/

namespace Sys2Proof.Machine

/-- `INC r8` (R140). -/
def incReg (r : Reg8) (s : State) : StepResult :=
  let x := inc8 (s.get8 r) s.cf
  .next ((s.set8 r x.res).setFlags x.z x.n x.h x.cy)

/-- `DEC r8` (R142). -/
def decReg (r : Reg8) (s : State) : StepResult :=
  let x := dec8 (s.get8 r) s.cf
  .next ((s.set8 r x.res).setFlags x.z x.n x.h x.cy)

/-- `INC [HL]` (R141): read, write, then the flags. -/
def incAtHl (s : State) : StepResult :=
  memRead s.hl s fun v s =>
    let x := inc8 v s.cf
    memWrite s.hl x.res s fun s => .next (s.setFlags x.z x.n x.h x.cy)

/-- `DEC [HL]` (R143). -/
def decAtHl (s : State) : StepResult :=
  memRead s.hl s fun v s =>
    let x := dec8 v s.cf
    memWrite s.hl x.res s fun s => .next (s.setFlags x.z x.n x.h x.cy)

/-- `INC r16` (R144): no flag. -/
def inc16 (p : Reg16) (s : State) : StepResult := .next (internal (s.set16 p (s.get16 p + 1)))

/-- `DEC r16` (R145): no flag. -/
def dec16 (p : Reg16) (s : State) : StepResult := .next (internal (s.set16 p (s.get16 p - 1)))

/-- `ADD HL,r16` (R146): Z is kept. -/
def addHl (p : Reg16) (s : State) : StepResult :=
  let x := add16 s.hl (s.get16 p)
  .next (internal ((s.set16 .hl x.1).setFlags s.zf false x.2.1 x.2.2))

/-- `ADD SP,e8` (R147). -/
def addSp (e : Byte) (s : State) : StepResult :=
  let x := spadd s.regs.sp e
  .next (internal (internal ((s.setSp x.1).setFlags false false x.2.1 x.2.2)))

/-! One meaning per row of the opcode table. -/

/-- `INC BC` (R144). -/
def execIncBc (s : State) : StepResult := inc16 .bc s

/-- `INC B` (R140). -/
def execIncB (s : State) : StepResult := incReg .b s

/-- `DEC B` (R142). -/
def execDecB (s : State) : StepResult := decReg .b s

/-- `ADD HL,BC` (R146). -/
def execAddHlBc (s : State) : StepResult := addHl .bc s

/-- `DEC BC` (R145). -/
def execDecBc (s : State) : StepResult := dec16 .bc s

/-- `INC C` (R140). -/
def execIncC (s : State) : StepResult := incReg .c s

/-- `DEC C` (R142). -/
def execDecC (s : State) : StepResult := decReg .c s

/-- `INC DE` (R144). -/
def execIncDe (s : State) : StepResult := inc16 .de s

/-- `INC D` (R140). -/
def execIncD (s : State) : StepResult := incReg .d s

/-- `DEC D` (R142). -/
def execDecD (s : State) : StepResult := decReg .d s

/-- `ADD HL,DE` (R146). -/
def execAddHlDe (s : State) : StepResult := addHl .de s

/-- `DEC DE` (R145). -/
def execDecDe (s : State) : StepResult := dec16 .de s

/-- `INC E` (R140). -/
def execIncE (s : State) : StepResult := incReg .e s

/-- `DEC E` (R142). -/
def execDecE (s : State) : StepResult := decReg .e s

/-- `INC HL` (R144). -/
def execIncHl (s : State) : StepResult := inc16 .hl s

/-- `INC H` (R140). -/
def execIncH (s : State) : StepResult := incReg .h s

/-- `DEC H` (R142). -/
def execDecH (s : State) : StepResult := decReg .h s

/-- `ADD HL,HL` (R146). -/
def execAddHlHl (s : State) : StepResult := addHl .hl s

/-- `DEC HL` (R145). -/
def execDecHl (s : State) : StepResult := dec16 .hl s

/-- `INC L` (R140). -/
def execIncL (s : State) : StepResult := incReg .l s

/-- `DEC L` (R142). -/
def execDecL (s : State) : StepResult := decReg .l s

/-- `INC SP` (R144). -/
def execIncSp (s : State) : StepResult := inc16 .sp s

/-- `INC [HL]` (R141). -/
def execIncAtHl (s : State) : StepResult := incAtHl s

/-- `DEC [HL]` (R143). -/
def execDecAtHl (s : State) : StepResult := decAtHl s

/-- `ADD HL,SP` (R146). -/
def execAddHlSp (s : State) : StepResult := addHl .sp s

/-- `DEC SP` (R145). -/
def execDecSp (s : State) : StepResult := dec16 .sp s

/-- `INC A` (R140). -/
def execIncA (s : State) : StepResult := incReg .a s

/-- `DEC A` (R142). -/
def execDecA (s : State) : StepResult := decReg .a s

/-- `ADD SP,e8` (R147). -/
def execAddSpE8 (e : Byte) (s : State) : StepResult := addSp e s

end Sys2Proof.Machine
end

