-- ==== Sys2Proof/Machine/Loads.lean ====
section
/-! DEFINITION. Loads and stores (R200 to R222). -/

namespace Sys2Proof.Machine

/-- A value into an 8-bit register (R200, R201). -/
def loadReg (dst : Reg8) (v : Byte) (s : State) : StepResult := .next (s.set8 dst v)

/-- `LD r8,[HL]` (R202): the read is at the old HL. -/
def loadRegAtHl (dst : Reg8) (s : State) : StepResult :=
  memRead s.hl s fun v s => .next (s.set8 dst v)

/-- A value to `[HL]` (R203, R204). -/
def storeAtHl (v : Byte) (s : State) : StepResult := memWrite s.hl v s fun s => .next s

/-- A from an address (R205, R206, R213, R215, R217). -/
def loadA (addr : Word) (s : State) : StepResult :=
  memRead addr s fun v s => .next (s.set8 .a v)

/-- A to an address (R207, R208, R214, R216, R218). -/
def storeA (addr : Word) (s : State) : StepResult := memWrite addr s.regs.a s fun s => .next s

/-- `LD A,[HL+]` and `LD A,[HL-]` (R209, R210): HL moves by `step` after the read. -/
def loadAStep (step : Word) (s : State) : StepResult :=
  memRead s.hl s fun v s => .next ((s.set8 .a v).set16 .hl (s.hl + step))

/-- `LD [HL+],A` and `LD [HL-],A` (R211, R212): HL moves by `step` after the write. -/
def storeAStep (step : Word) (s : State) : StepResult :=
  memWrite s.hl s.regs.a s fun s => .next (s.set16 .hl (s.hl + step))

/-- `LD r16,n16` (R219). -/
def load16 (p : Reg16) (n : Word) (s : State) : StepResult := .next (s.set16 p n)

/-- `LD [n16],SP` (R220): low byte, then high byte at the next address. -/
def storeSp (addr : Word) (s : State) : StepResult :=
  memWrite addr (loByte s.regs.sp) s fun s =>
    memWrite (addr + 1) (hiByte s.regs.sp) s fun s => .next s

/-- `LD SP,HL` (R221). -/
def loadSpHl (s : State) : StepResult := .next (internal (s.setSp s.hl))

/-- `LD HL,SP+e8` (R222). -/
def loadHlSp (e : Byte) (s : State) : StepResult :=
  let x := spadd s.regs.sp e
  .next (internal ((s.set16 .hl x.1).setFlags false false x.2.1 x.2.2))

/-! One meaning per row of the opcode table. -/

/-- `LD BC,n16` (R219). -/
def execLdBcN16 (n : Word) (s : State) : StepResult := load16 .bc n s

/-- `LD [BC],A` (R207). -/
def execLdAtBcA (s : State) : StepResult := storeA (s.get16 .bc) s

/-- `LD B,n8` (R201). -/
def execLdBN8 (n : Byte) (s : State) : StepResult := loadReg .b n s

/-- `LD [n16],SP` (R220). -/
def execLdAtN16Sp (n : Word) (s : State) : StepResult := storeSp n s

/-- `LD A,[BC]` (R205). -/
def execLdAAtBc (s : State) : StepResult := loadA (s.get16 .bc) s

/-- `LD C,n8` (R201). -/
def execLdCN8 (n : Byte) (s : State) : StepResult := loadReg .c n s

/-- `LD DE,n16` (R219). -/
def execLdDeN16 (n : Word) (s : State) : StepResult := load16 .de n s

/-- `LD [DE],A` (R208). -/
def execLdAtDeA (s : State) : StepResult := storeA (s.get16 .de) s

/-- `LD D,n8` (R201). -/
def execLdDN8 (n : Byte) (s : State) : StepResult := loadReg .d n s

/-- `LD A,[DE]` (R206). -/
def execLdAAtDe (s : State) : StepResult := loadA (s.get16 .de) s

/-- `LD E,n8` (R201). -/
def execLdEN8 (n : Byte) (s : State) : StepResult := loadReg .e n s

/-- `LD HL,n16` (R219). -/
def execLdHlN16 (n : Word) (s : State) : StepResult := load16 .hl n s

/-- `LD [HL+],A` (R211). -/
def execLdAtHliA (s : State) : StepResult := storeAStep 1 s

/-- `LD H,n8` (R201). -/
def execLdHN8 (n : Byte) (s : State) : StepResult := loadReg .h n s

/-- `LD A,[HL+]` (R209). -/
def execLdAAtHli (s : State) : StepResult := loadAStep 1 s

/-- `LD L,n8` (R201). -/
def execLdLN8 (n : Byte) (s : State) : StepResult := loadReg .l n s

/-- `LD SP,n16` (R219). -/
def execLdSpN16 (n : Word) (s : State) : StepResult := load16 .sp n s

/-- `LD [HL-],A` (R212). -/
def execLdAtHldA (s : State) : StepResult := storeAStep (-1) s

/-- `LD [HL],n8` (R204). -/
def execLdAtHlN8 (n : Byte) (s : State) : StepResult := storeAtHl n s

/-- `LD A,[HL-]` (R210). -/
def execLdAAtHld (s : State) : StepResult := loadAStep (-1) s

/-- `LD A,n8` (R201). -/
def execLdAN8 (n : Byte) (s : State) : StepResult := loadReg .a n s

/-- `LD B,B` (R200). -/
def execLdBB (s : State) : StepResult := loadReg .b (s.get8 .b) s

/-- `LD B,C` (R200). -/
def execLdBC (s : State) : StepResult := loadReg .b (s.get8 .c) s

/-- `LD B,D` (R200). -/
def execLdBD (s : State) : StepResult := loadReg .b (s.get8 .d) s

/-- `LD B,E` (R200). -/
def execLdBE (s : State) : StepResult := loadReg .b (s.get8 .e) s

/-- `LD B,H` (R200). -/
def execLdBH (s : State) : StepResult := loadReg .b (s.get8 .h) s

/-- `LD B,L` (R200). -/
def execLdBL (s : State) : StepResult := loadReg .b (s.get8 .l) s

/-- `LD B,[HL]` (R202). -/
def execLdBAtHl (s : State) : StepResult := loadRegAtHl .b s

/-- `LD B,A` (R200). -/
def execLdBA (s : State) : StepResult := loadReg .b (s.get8 .a) s

/-- `LD C,B` (R200). -/
def execLdCB (s : State) : StepResult := loadReg .c (s.get8 .b) s

/-- `LD C,C` (R200). -/
def execLdCC (s : State) : StepResult := loadReg .c (s.get8 .c) s

/-- `LD C,D` (R200). -/
def execLdCD (s : State) : StepResult := loadReg .c (s.get8 .d) s

/-- `LD C,E` (R200). -/
def execLdCE (s : State) : StepResult := loadReg .c (s.get8 .e) s

/-- `LD C,H` (R200). -/
def execLdCH (s : State) : StepResult := loadReg .c (s.get8 .h) s

/-- `LD C,L` (R200). -/
def execLdCL (s : State) : StepResult := loadReg .c (s.get8 .l) s

/-- `LD C,[HL]` (R202). -/
def execLdCAtHl (s : State) : StepResult := loadRegAtHl .c s

/-- `LD C,A` (R200). -/
def execLdCA (s : State) : StepResult := loadReg .c (s.get8 .a) s

/-- `LD D,B` (R200). -/
def execLdDB (s : State) : StepResult := loadReg .d (s.get8 .b) s

/-- `LD D,C` (R200). -/
def execLdDC (s : State) : StepResult := loadReg .d (s.get8 .c) s

/-- `LD D,D` (R200). -/
def execLdDD (s : State) : StepResult := loadReg .d (s.get8 .d) s

/-- `LD D,E` (R200). -/
def execLdDE (s : State) : StepResult := loadReg .d (s.get8 .e) s

/-- `LD D,H` (R200). -/
def execLdDH (s : State) : StepResult := loadReg .d (s.get8 .h) s

/-- `LD D,L` (R200). -/
def execLdDL (s : State) : StepResult := loadReg .d (s.get8 .l) s

/-- `LD D,[HL]` (R202). -/
def execLdDAtHl (s : State) : StepResult := loadRegAtHl .d s

/-- `LD D,A` (R200). -/
def execLdDA (s : State) : StepResult := loadReg .d (s.get8 .a) s

/-- `LD E,B` (R200). -/
def execLdEB (s : State) : StepResult := loadReg .e (s.get8 .b) s

/-- `LD E,C` (R200). -/
def execLdEC (s : State) : StepResult := loadReg .e (s.get8 .c) s

/-- `LD E,D` (R200). -/
def execLdED (s : State) : StepResult := loadReg .e (s.get8 .d) s

/-- `LD E,E` (R200). -/
def execLdEE (s : State) : StepResult := loadReg .e (s.get8 .e) s

/-- `LD E,H` (R200). -/
def execLdEH (s : State) : StepResult := loadReg .e (s.get8 .h) s

/-- `LD E,L` (R200). -/
def execLdEL (s : State) : StepResult := loadReg .e (s.get8 .l) s

/-- `LD E,[HL]` (R202). -/
def execLdEAtHl (s : State) : StepResult := loadRegAtHl .e s

/-- `LD E,A` (R200). -/
def execLdEA (s : State) : StepResult := loadReg .e (s.get8 .a) s

/-- `LD H,B` (R200). -/
def execLdHB (s : State) : StepResult := loadReg .h (s.get8 .b) s

/-- `LD H,C` (R200). -/
def execLdHC (s : State) : StepResult := loadReg .h (s.get8 .c) s

/-- `LD H,D` (R200). -/
def execLdHD (s : State) : StepResult := loadReg .h (s.get8 .d) s

/-- `LD H,E` (R200). -/
def execLdHE (s : State) : StepResult := loadReg .h (s.get8 .e) s

/-- `LD H,H` (R200). -/
def execLdHH (s : State) : StepResult := loadReg .h (s.get8 .h) s

/-- `LD H,L` (R200). -/
def execLdHL (s : State) : StepResult := loadReg .h (s.get8 .l) s

/-- `LD H,[HL]` (R202). -/
def execLdHAtHl (s : State) : StepResult := loadRegAtHl .h s

/-- `LD H,A` (R200). -/
def execLdHA (s : State) : StepResult := loadReg .h (s.get8 .a) s

/-- `LD L,B` (R200). -/
def execLdLB (s : State) : StepResult := loadReg .l (s.get8 .b) s

/-- `LD L,C` (R200). -/
def execLdLC (s : State) : StepResult := loadReg .l (s.get8 .c) s

/-- `LD L,D` (R200). -/
def execLdLD (s : State) : StepResult := loadReg .l (s.get8 .d) s

/-- `LD L,E` (R200). -/
def execLdLE (s : State) : StepResult := loadReg .l (s.get8 .e) s

/-- `LD L,H` (R200). -/
def execLdLH (s : State) : StepResult := loadReg .l (s.get8 .h) s

/-- `LD L,L` (R200). -/
def execLdLL (s : State) : StepResult := loadReg .l (s.get8 .l) s

/-- `LD L,[HL]` (R202). -/
def execLdLAtHl (s : State) : StepResult := loadRegAtHl .l s

/-- `LD L,A` (R200). -/
def execLdLA (s : State) : StepResult := loadReg .l (s.get8 .a) s

/-- `LD [HL],B` (R203). -/
def execLdAtHlB (s : State) : StepResult := storeAtHl (s.get8 .b) s

/-- `LD [HL],C` (R203). -/
def execLdAtHlC (s : State) : StepResult := storeAtHl (s.get8 .c) s

/-- `LD [HL],D` (R203). -/
def execLdAtHlD (s : State) : StepResult := storeAtHl (s.get8 .d) s

/-- `LD [HL],E` (R203). -/
def execLdAtHlE (s : State) : StepResult := storeAtHl (s.get8 .e) s

/-- `LD [HL],H` (R203). -/
def execLdAtHlH (s : State) : StepResult := storeAtHl (s.get8 .h) s

/-- `LD [HL],L` (R203). -/
def execLdAtHlL (s : State) : StepResult := storeAtHl (s.get8 .l) s

/-- `LD [HL],A` (R203). -/
def execLdAtHlA (s : State) : StepResult := storeAtHl (s.get8 .a) s

/-- `LD A,B` (R200). -/
def execLdAB (s : State) : StepResult := loadReg .a (s.get8 .b) s

/-- `LD A,C` (R200). -/
def execLdAC (s : State) : StepResult := loadReg .a (s.get8 .c) s

/-- `LD A,D` (R200). -/
def execLdAD (s : State) : StepResult := loadReg .a (s.get8 .d) s

/-- `LD A,E` (R200). -/
def execLdAE (s : State) : StepResult := loadReg .a (s.get8 .e) s

/-- `LD A,H` (R200). -/
def execLdAH (s : State) : StepResult := loadReg .a (s.get8 .h) s

/-- `LD A,L` (R200). -/
def execLdAL (s : State) : StepResult := loadReg .a (s.get8 .l) s

/-- `LD A,[HL]` (R202). -/
def execLdAAtHl (s : State) : StepResult := loadRegAtHl .a s

/-- `LD A,A` (R200). -/
def execLdAA (s : State) : StepResult := loadReg .a (s.get8 .a) s

/-- `LDH [n8],A` (R216). -/
def execLdhAtN8A (n : Byte) (s : State) : StepResult := storeA (highPage n) s

/-- `LDH [C],A` (R218). -/
def execLdhAtCA (s : State) : StepResult := storeA (highPage s.regs.c) s

/-- `LD [n16],A` (R214). -/
def execLdAtN16A (n : Word) (s : State) : StepResult := storeA n s

/-- `LDH A,[n8]` (R215). -/
def execLdhAAtN8 (n : Byte) (s : State) : StepResult := loadA (highPage n) s

/-- `LDH A,[C]` (R217). -/
def execLdhAAtC (s : State) : StepResult := loadA (highPage s.regs.c) s

/-- `LD HL,SP+e8` (R222). -/
def execLdHlSpE8 (e : Byte) (s : State) : StepResult := loadHlSp e s

/-- `LD SP,HL` (R221). -/
def execLdSpHl (s : State) : StepResult := loadSpHl s

/-- `LD A,[n16]` (R213). -/
def execLdAAtN16 (n : Word) (s : State) : StepResult := loadA n s

end Sys2Proof.Machine
end

