-- ==== Sys2Proof/Machine/MiscAlu.lean ====
section
/-! DEFINITION. DAA, CPL, SCF, CCF (R265 to R268). -/

namespace Sys2Proof.Machine

/-- `DAA` (R265): N is kept. -/
def decimalAdjust (s : State) : StepResult :=
  let x := daaResult s.regs.a s.nf s.hf s.cf
  .next ((s.set8 .a x.1).setFlags (x.1 == 0) s.nf false x.2)

/-- `CPL` (R266): Z and Cy are kept. -/
def complementA (s : State) : StepResult :=
  .next ((s.set8 .a (s.regs.a ^^^ 0xFF)).setFlags s.zf true true s.cf)

/-- `SCF` (R267): Z is kept. -/
def setCarry (s : State) : StepResult := .next (s.setFlags s.zf false false true)

/-- `CCF` (R268): Z is kept. -/
def complementCarry (s : State) : StepResult := .next (s.setFlags s.zf false false !s.cf)

/-! One meaning per row of the opcode table. -/

/-- `DAA` (R265). -/
def execDaa (s : State) : StepResult := decimalAdjust s

/-- `CPL` (R266). -/
def execCpl (s : State) : StepResult := complementA s

/-- `SCF` (R267). -/
def execScf (s : State) : StepResult := setCarry s

/-- `CCF` (R268). -/
def execCcf (s : State) : StepResult := complementCarry s

end Sys2Proof.Machine
end

