-- ==== Sys2Proof/Machine/Rotates.lean ====
section
/-! DEFINITION. Rotates and shifts (R160 to R180). -/

namespace Sys2Proof.Machine

/-- The accumulator forms (R161 to R164): Z, N and H are cleared. -/
def rotA (op : RotOp) (s : State) : StepResult :=
  let x := rotResult op s.regs.a s.cf
  .next ((s.set8 .a x.1).setFlags false false false x.2)

/-- The CB form on a register (R160). -/
def rotReg (op : RotOp) (r : Reg8) (s : State) : StepResult :=
  let x := rotResult op (s.get8 r) s.cf
  .next ((s.set8 r x.1).setFlags (x.1 == 0) false false x.2)

/-- The CB form on `[HL]` (R160): read, write, then the flags. -/
def rotAtHl (op : RotOp) (s : State) : StepResult :=
  memRead s.hl s fun v s =>
    let x := rotResult op v s.cf
    memWrite s.hl x.1 s fun s => .next (s.setFlags (x.1 == 0) false false x.2)

/-! One meaning per row of the opcode table. -/

/-- `RLCA` (R161). -/
def execRlca (s : State) : StepResult := rotA .rlc s

/-- `RRCA` (R162). -/
def execRrca (s : State) : StepResult := rotA .rrc s

/-- `RLA` (R163). -/
def execRla (s : State) : StepResult := rotA .rl s

/-- `RRA` (R164). -/
def execRra (s : State) : StepResult := rotA .rr s

/-- `RLC B` (R165). -/
def execRlcB (s : State) : StepResult := rotReg .rlc .b s

/-- `RLC C` (R165). -/
def execRlcC (s : State) : StepResult := rotReg .rlc .c s

/-- `RLC D` (R165). -/
def execRlcD (s : State) : StepResult := rotReg .rlc .d s

/-- `RLC E` (R165). -/
def execRlcE (s : State) : StepResult := rotReg .rlc .e s

/-- `RLC H` (R165). -/
def execRlcH (s : State) : StepResult := rotReg .rlc .h s

/-- `RLC L` (R165). -/
def execRlcL (s : State) : StepResult := rotReg .rlc .l s

/-- `RLC [HL]` (R166). -/
def execRlcAtHl (s : State) : StepResult := rotAtHl .rlc s

/-- `RLC A` (R165). -/
def execRlcA (s : State) : StepResult := rotReg .rlc .a s

/-- `RRC B` (R167). -/
def execRrcB (s : State) : StepResult := rotReg .rrc .b s

/-- `RRC C` (R167). -/
def execRrcC (s : State) : StepResult := rotReg .rrc .c s

/-- `RRC D` (R167). -/
def execRrcD (s : State) : StepResult := rotReg .rrc .d s

/-- `RRC E` (R167). -/
def execRrcE (s : State) : StepResult := rotReg .rrc .e s

/-- `RRC H` (R167). -/
def execRrcH (s : State) : StepResult := rotReg .rrc .h s

/-- `RRC L` (R167). -/
def execRrcL (s : State) : StepResult := rotReg .rrc .l s

/-- `RRC [HL]` (R168). -/
def execRrcAtHl (s : State) : StepResult := rotAtHl .rrc s

/-- `RRC A` (R167). -/
def execRrcA (s : State) : StepResult := rotReg .rrc .a s

/-- `RL B` (R169). -/
def execRlB (s : State) : StepResult := rotReg .rl .b s

/-- `RL C` (R169). -/
def execRlC (s : State) : StepResult := rotReg .rl .c s

/-- `RL D` (R169). -/
def execRlD (s : State) : StepResult := rotReg .rl .d s

/-- `RL E` (R169). -/
def execRlE (s : State) : StepResult := rotReg .rl .e s

/-- `RL H` (R169). -/
def execRlH (s : State) : StepResult := rotReg .rl .h s

/-- `RL L` (R169). -/
def execRlL (s : State) : StepResult := rotReg .rl .l s

/-- `RL [HL]` (R170). -/
def execRlAtHl (s : State) : StepResult := rotAtHl .rl s

/-- `RL A` (R169). -/
def execRlA (s : State) : StepResult := rotReg .rl .a s

/-- `RR B` (R171). -/
def execRrB (s : State) : StepResult := rotReg .rr .b s

/-- `RR C` (R171). -/
def execRrC (s : State) : StepResult := rotReg .rr .c s

/-- `RR D` (R171). -/
def execRrD (s : State) : StepResult := rotReg .rr .d s

/-- `RR E` (R171). -/
def execRrE (s : State) : StepResult := rotReg .rr .e s

/-- `RR H` (R171). -/
def execRrH (s : State) : StepResult := rotReg .rr .h s

/-- `RR L` (R171). -/
def execRrL (s : State) : StepResult := rotReg .rr .l s

/-- `RR [HL]` (R172). -/
def execRrAtHl (s : State) : StepResult := rotAtHl .rr s

/-- `RR A` (R171). -/
def execRrA (s : State) : StepResult := rotReg .rr .a s

/-- `SLA B` (R173). -/
def execSlaB (s : State) : StepResult := rotReg .sla .b s

/-- `SLA C` (R173). -/
def execSlaC (s : State) : StepResult := rotReg .sla .c s

/-- `SLA D` (R173). -/
def execSlaD (s : State) : StepResult := rotReg .sla .d s

/-- `SLA E` (R173). -/
def execSlaE (s : State) : StepResult := rotReg .sla .e s

/-- `SLA H` (R173). -/
def execSlaH (s : State) : StepResult := rotReg .sla .h s

/-- `SLA L` (R173). -/
def execSlaL (s : State) : StepResult := rotReg .sla .l s

/-- `SLA [HL]` (R174). -/
def execSlaAtHl (s : State) : StepResult := rotAtHl .sla s

/-- `SLA A` (R173). -/
def execSlaA (s : State) : StepResult := rotReg .sla .a s

/-- `SRA B` (R175). -/
def execSraB (s : State) : StepResult := rotReg .sra .b s

/-- `SRA C` (R175). -/
def execSraC (s : State) : StepResult := rotReg .sra .c s

/-- `SRA D` (R175). -/
def execSraD (s : State) : StepResult := rotReg .sra .d s

/-- `SRA E` (R175). -/
def execSraE (s : State) : StepResult := rotReg .sra .e s

/-- `SRA H` (R175). -/
def execSraH (s : State) : StepResult := rotReg .sra .h s

/-- `SRA L` (R175). -/
def execSraL (s : State) : StepResult := rotReg .sra .l s

/-- `SRA [HL]` (R176). -/
def execSraAtHl (s : State) : StepResult := rotAtHl .sra s

/-- `SRA A` (R175). -/
def execSraA (s : State) : StepResult := rotReg .sra .a s

/-- `SWAP B` (R177). -/
def execSwapB (s : State) : StepResult := rotReg .swap .b s

/-- `SWAP C` (R177). -/
def execSwapC (s : State) : StepResult := rotReg .swap .c s

/-- `SWAP D` (R177). -/
def execSwapD (s : State) : StepResult := rotReg .swap .d s

/-- `SWAP E` (R177). -/
def execSwapE (s : State) : StepResult := rotReg .swap .e s

/-- `SWAP H` (R177). -/
def execSwapH (s : State) : StepResult := rotReg .swap .h s

/-- `SWAP L` (R177). -/
def execSwapL (s : State) : StepResult := rotReg .swap .l s

/-- `SWAP [HL]` (R178). -/
def execSwapAtHl (s : State) : StepResult := rotAtHl .swap s

/-- `SWAP A` (R177). -/
def execSwapA (s : State) : StepResult := rotReg .swap .a s

/-- `SRL B` (R179). -/
def execSrlB (s : State) : StepResult := rotReg .srl .b s

/-- `SRL C` (R179). -/
def execSrlC (s : State) : StepResult := rotReg .srl .c s

/-- `SRL D` (R179). -/
def execSrlD (s : State) : StepResult := rotReg .srl .d s

/-- `SRL E` (R179). -/
def execSrlE (s : State) : StepResult := rotReg .srl .e s

/-- `SRL H` (R179). -/
def execSrlH (s : State) : StepResult := rotReg .srl .h s

/-- `SRL L` (R179). -/
def execSrlL (s : State) : StepResult := rotReg .srl .l s

/-- `SRL [HL]` (R180). -/
def execSrlAtHl (s : State) : StepResult := rotAtHl .srl s

/-- `SRL A` (R179). -/
def execSrlA (s : State) : StepResult := rotReg .srl .a s

end Sys2Proof.Machine
end

