-- ==== Sys2Proof/Machine/Prefixed.lean ====
section
/-! DEFINITION. The prefix byte 0xCB as a row of its own (R275): fetch one more byte and run the CB table's entry. The step machine
fetches the pair at once and never runs this row; a statement ties the two together. -/

namespace Sys2Proof.Machine

/-- The entry of the CB table at `op2`, by its fields (R92). -/
def runCbEntry (op2 : Byte) (s : State) : StepResult :=
  let bit := Fin.ofNat 8 (fieldY op2)
  match fieldX op2, opnd8At (fieldZ op2) with
  | 0, .reg r => rotReg (rotAt (fieldY op2)) r s
  | 0, .atHl => rotAtHl (rotAt (fieldY op2)) s
  | 1, .reg r => bitReg bit r s
  | 1, .atHl => bitAtHl bit s
  | 2, .reg r => resReg bit r s
  | 2, .atHl => resAtHl bit s
  | _, .reg r => setReg bit r s
  | _, .atHl => setAtHl bit s

/-- The prefix (R275): no state changes between the two fetches but PC and the ticks. -/
def runCbTable (s : State) : StepResult := fetch8 s runCbEntry

/-! One meaning per row of the opcode table. -/

/-- `PREFIX CB` (R275). -/
def execPrefixCb (s : State) : StepResult := runCbTable s

end Sys2Proof.Machine
end

