-- ==== Sys2Proof/Machine/Stack.lean ====
section
/-! DEFINITION. PUSH and POP (R260 to R262). -/

namespace Sys2Proof.Machine

/-- `PUSH r16stk` (R260): one internal M-cycle, then high byte and low byte. -/
def push (p : Reg16Stk) (s : State) : StepResult :=
  push16 (s.getStk p) (internal s) fun s => .next s

/-- `POP r16stk` (R261); POP AF forces the low nibble of F to 0 (R262). -/
def pop (p : Reg16Stk) (s : State) : StepResult :=
  pop16 s fun v s => .next (s.setStk p v)

/-! One meaning per row of the opcode table. -/

/-- `POP BC` (R261). -/
def execPopBc (s : State) : StepResult := pop .bc s

/-- `PUSH BC` (R260). -/
def execPushBc (s : State) : StepResult := push .bc s

/-- `POP DE` (R261). -/
def execPopDe (s : State) : StepResult := pop .de s

/-- `PUSH DE` (R260). -/
def execPushDe (s : State) : StepResult := push .de s

/-- `POP HL` (R261). -/
def execPopHl (s : State) : StepResult := pop .hl s

/-- `PUSH HL` (R260). -/
def execPushHl (s : State) : StepResult := push .hl s

/-- `POP AF` (R262). -/
def execPopAf (s : State) : StepResult := pop .af s

/-- `PUSH AF` (R260). -/
def execPushAf (s : State) : StepResult := push .af s

end Sys2Proof.Machine
end

