-- ==== Sys2Proof/Machine/System.lean ====
section
/-! DEFINITION. NOP, interrupt control, HALT, STOP, the illegal bytes (R270 to R276). -/

namespace Sys2Proof.Machine

/-- `NOP` (R270). -/
def nop (s : State) : StepResult := .next s

/-- `DI` (R271). -/
def disableInterrupts (s : State) : StepResult := .next { s with ime := false, imePending := false }

/-- `EI` (R272): the enable is scheduled; IME itself is not changed. -/
def scheduleEnable (s : State) : StepResult := .next { s with imePending := true }

/-- `HALT` (R273): PC has advanced; no halt bug. -/
def halt (s : State) : StepResult := .next { s with halted := true }

/-- `STOP` (R274): its byte is fetched and never interpreted; the stopped state is the halted state. -/
def stop (_n : Byte) (s : State) : StepResult := .next { s with halted := true }

/-- An illegal byte (R276): the fault records the address it was fetched from, one before PC. -/
def illegal (op : Byte) (s : State) : StepResult := raise (.illegalOpcode (s.regs.pc - 1) op) s

/-! One meaning per row of the opcode table. -/

/-- `NOP` (R270). -/
def execNop (s : State) : StepResult := nop s

/-- `STOP` (R274). -/
def execStop (n : Byte) (s : State) : StepResult := stop n s

/-- `HALT` (R273). -/
def execHalt (s : State) : StepResult := halt s

/-- `DI` (R271). -/
def execDi (s : State) : StepResult := disableInterrupts s

/-- `EI` (R272). -/
def execEi (s : State) : StepResult := scheduleEnable s

/-- `ILLEGAL` (R276). -/
def execIllegalD3 (s : State) : StepResult := illegal 0xD3 s

/-- `ILLEGAL` (R276). -/
def execIllegalDB (s : State) : StepResult := illegal 0xDB s

/-- `ILLEGAL` (R276). -/
def execIllegalDD (s : State) : StepResult := illegal 0xDD s

/-- `ILLEGAL` (R276). -/
def execIllegalE3 (s : State) : StepResult := illegal 0xE3 s

/-- `ILLEGAL` (R276). -/
def execIllegalE4 (s : State) : StepResult := illegal 0xE4 s

/-- `ILLEGAL` (R276). -/
def execIllegalEB (s : State) : StepResult := illegal 0xEB s

/-- `ILLEGAL` (R276). -/
def execIllegalEC (s : State) : StepResult := illegal 0xEC s

/-- `ILLEGAL` (R276). -/
def execIllegalED (s : State) : StepResult := illegal 0xED s

/-- `ILLEGAL` (R276). -/
def execIllegalF4 (s : State) : StepResult := illegal 0xF4 s

/-- `ILLEGAL` (R276). -/
def execIllegalFC (s : State) : StepResult := illegal 0xFC s

/-- `ILLEGAL` (R276). -/
def execIllegalFD (s : State) : StepResult := illegal 0xFD s

end Sys2Proof.Machine
end

