-- ==== Sys2Proof/Machine/Step.lean ====
section
/-! DEFINITION. One step of the machine, and the loading of an instruction word where the next step fetches. -/

namespace Sys2Proof.Machine

/-- One step (R290): a dispatch, an idle M-cycle while halted, or one whole instruction. -/
def step (s : State) : Host.Outcome State Fault Refusal := runStep exec s

/-- The instruction of a table word stored where the next step fetches: its bytes in the cells behind PC and the addresses after it.
It stands for the loading of a program image, which the cartridge does outside the machine. Log entry 8. -/
def State.withFetchWord (s : State) (nbits w : Nat) : State := loadBytes s.regs.pc (tableBytes nbits w) s

end Sys2Proof.Machine
end

