-- ==== Sys2Proof/Machine/Metadata.lean ====
section
/-! DEFINITION. The metadata of the opcode table's rows (R98): mnemonic (R96), length, cycles, alternate cycles. Not state. -/

namespace Sys2Proof.Machine

/-- The metadata of a row (R98). `mcycles` counts every M-cycle of the instruction, the fetches included; for a conditional
instruction it is the count when the condition holds and `mcyclesNotTaken` the other. -/
structure InstrInfo where
  mnemonic : String
  length : Nat
  mcycles : Nat
  mcyclesNotTaken : Option Nat
deriving DecidableEq, Repr

/-- T-cycles (R98): four per M-cycle. -/
def InstrInfo.tcycles (m : InstrInfo) : Nat := 4 * m.mcycles

/-- The row of an instruction. -/
def instrInfo (i : Instr) : InstrInfo :=
  match i with
  | .nop => ⟨"NOP", 1, 1, none⟩
  | .ldBcN16 _ => ⟨"LD BC,n16", 3, 3, none⟩
  | .ldAtBcA => ⟨"LD [BC],A", 1, 2, none⟩
  | .incBc => ⟨"INC BC", 1, 2, none⟩
  | .incB => ⟨"INC B", 1, 1, none⟩
  | .decB => ⟨"DEC B", 1, 1, none⟩
  | .ldBN8 _ => ⟨"LD B,n8", 2, 2, none⟩
  | .rlca => ⟨"RLCA", 1, 1, none⟩
  | .ldAtN16Sp _ => ⟨"LD [n16],SP", 3, 5, none⟩
  | .addHlBc => ⟨"ADD HL,BC", 1, 2, none⟩
  | .ldAAtBc => ⟨"LD A,[BC]", 1, 2, none⟩
  | .decBc => ⟨"DEC BC", 1, 2, none⟩
  | .incC => ⟨"INC C", 1, 1, none⟩
  | .decC => ⟨"DEC C", 1, 1, none⟩
  | .ldCN8 _ => ⟨"LD C,n8", 2, 2, none⟩
  | .rrca => ⟨"RRCA", 1, 1, none⟩
  | .stop _ => ⟨"STOP", 2, 2, none⟩
  | .ldDeN16 _ => ⟨"LD DE,n16", 3, 3, none⟩
  | .ldAtDeA => ⟨"LD [DE],A", 1, 2, none⟩
  | .incDe => ⟨"INC DE", 1, 2, none⟩
  | .incD => ⟨"INC D", 1, 1, none⟩
  | .decD => ⟨"DEC D", 1, 1, none⟩
  | .ldDN8 _ => ⟨"LD D,n8", 2, 2, none⟩
  | .rla => ⟨"RLA", 1, 1, none⟩
  | .jrE8 _ => ⟨"JR e8", 2, 3, none⟩
  | .addHlDe => ⟨"ADD HL,DE", 1, 2, none⟩
  | .ldAAtDe => ⟨"LD A,[DE]", 1, 2, none⟩
  | .decDe => ⟨"DEC DE", 1, 2, none⟩
  | .incE => ⟨"INC E", 1, 1, none⟩
  | .decE => ⟨"DEC E", 1, 1, none⟩
  | .ldEN8 _ => ⟨"LD E,n8", 2, 2, none⟩
  | .rra => ⟨"RRA", 1, 1, none⟩
  | .jrNzE8 _ => ⟨"JR NZ,e8", 2, 3, some 2⟩
  | .ldHlN16 _ => ⟨"LD HL,n16", 3, 3, none⟩
  | .ldAtHliA => ⟨"LD [HL+],A", 1, 2, none⟩
  | .incHl => ⟨"INC HL", 1, 2, none⟩
  | .incH => ⟨"INC H", 1, 1, none⟩
  | .decH => ⟨"DEC H", 1, 1, none⟩
  | .ldHN8 _ => ⟨"LD H,n8", 2, 2, none⟩
  | .daa => ⟨"DAA", 1, 1, none⟩
  | .jrZE8 _ => ⟨"JR Z,e8", 2, 3, some 2⟩
  | .addHlHl => ⟨"ADD HL,HL", 1, 2, none⟩
  | .ldAAtHli => ⟨"LD A,[HL+]", 1, 2, none⟩
  | .decHl => ⟨"DEC HL", 1, 2, none⟩
  | .incL => ⟨"INC L", 1, 1, none⟩
  | .decL => ⟨"DEC L", 1, 1, none⟩
  | .ldLN8 _ => ⟨"LD L,n8", 2, 2, none⟩
  | .cpl => ⟨"CPL", 1, 1, none⟩
  | .jrNcE8 _ => ⟨"JR NC,e8", 2, 3, some 2⟩
  | .ldSpN16 _ => ⟨"LD SP,n16", 3, 3, none⟩
  | .ldAtHldA => ⟨"LD [HL-],A", 1, 2, none⟩
  | .incSp => ⟨"INC SP", 1, 2, none⟩
  | .incAtHl => ⟨"INC [HL]", 1, 3, none⟩
  | .decAtHl => ⟨"DEC [HL]", 1, 3, none⟩
  | .ldAtHlN8 _ => ⟨"LD [HL],n8", 2, 3, none⟩
  | .scf => ⟨"SCF", 1, 1, none⟩
  | .jrCE8 _ => ⟨"JR C,e8", 2, 3, some 2⟩
  | .addHlSp => ⟨"ADD HL,SP", 1, 2, none⟩
  | .ldAAtHld => ⟨"LD A,[HL-]", 1, 2, none⟩
  | .decSp => ⟨"DEC SP", 1, 2, none⟩
  | .incA => ⟨"INC A", 1, 1, none⟩
  | .decA => ⟨"DEC A", 1, 1, none⟩
  | .ldAN8 _ => ⟨"LD A,n8", 2, 2, none⟩
  | .ccf => ⟨"CCF", 1, 1, none⟩
  | .ldBB => ⟨"LD B,B", 1, 1, none⟩
  | .ldBC => ⟨"LD B,C", 1, 1, none⟩
  | .ldBD => ⟨"LD B,D", 1, 1, none⟩
  | .ldBE => ⟨"LD B,E", 1, 1, none⟩
  | .ldBH => ⟨"LD B,H", 1, 1, none⟩
  | .ldBL => ⟨"LD B,L", 1, 1, none⟩
  | .ldBAtHl => ⟨"LD B,[HL]", 1, 2, none⟩
  | .ldBA => ⟨"LD B,A", 1, 1, none⟩
  | .ldCB => ⟨"LD C,B", 1, 1, none⟩
  | .ldCC => ⟨"LD C,C", 1, 1, none⟩
  | .ldCD => ⟨"LD C,D", 1, 1, none⟩
  | .ldCE => ⟨"LD C,E", 1, 1, none⟩
  | .ldCH => ⟨"LD C,H", 1, 1, none⟩
  | .ldCL => ⟨"LD C,L", 1, 1, none⟩
  | .ldCAtHl => ⟨"LD C,[HL]", 1, 2, none⟩
  | .ldCA => ⟨"LD C,A", 1, 1, none⟩
  | .ldDB => ⟨"LD D,B", 1, 1, none⟩
  | .ldDC => ⟨"LD D,C", 1, 1, none⟩
  | .ldDD => ⟨"LD D,D", 1, 1, none⟩
  | .ldDE => ⟨"LD D,E", 1, 1, none⟩
  | .ldDH => ⟨"LD D,H", 1, 1, none⟩
  | .ldDL => ⟨"LD D,L", 1, 1, none⟩
  | .ldDAtHl => ⟨"LD D,[HL]", 1, 2, none⟩
  | .ldDA => ⟨"LD D,A", 1, 1, none⟩
  | .ldEB => ⟨"LD E,B", 1, 1, none⟩
  | .ldEC => ⟨"LD E,C", 1, 1, none⟩
  | .ldED => ⟨"LD E,D", 1, 1, none⟩
  | .ldEE => ⟨"LD E,E", 1, 1, none⟩
  | .ldEH => ⟨"LD E,H", 1, 1, none⟩
  | .ldEL => ⟨"LD E,L", 1, 1, none⟩
  | .ldEAtHl => ⟨"LD E,[HL]", 1, 2, none⟩
  | .ldEA => ⟨"LD E,A", 1, 1, none⟩
  | .ldHB => ⟨"LD H,B", 1, 1, none⟩
  | .ldHC => ⟨"LD H,C", 1, 1, none⟩
  | .ldHD => ⟨"LD H,D", 1, 1, none⟩
  | .ldHE => ⟨"LD H,E", 1, 1, none⟩
  | .ldHH => ⟨"LD H,H", 1, 1, none⟩
  | .ldHL => ⟨"LD H,L", 1, 1, none⟩
  | .ldHAtHl => ⟨"LD H,[HL]", 1, 2, none⟩
  | .ldHA => ⟨"LD H,A", 1, 1, none⟩
  | .ldLB => ⟨"LD L,B", 1, 1, none⟩
  | .ldLC => ⟨"LD L,C", 1, 1, none⟩
  | .ldLD => ⟨"LD L,D", 1, 1, none⟩
  | .ldLE => ⟨"LD L,E", 1, 1, none⟩
  | .ldLH => ⟨"LD L,H", 1, 1, none⟩
  | .ldLL => ⟨"LD L,L", 1, 1, none⟩
  | .ldLAtHl => ⟨"LD L,[HL]", 1, 2, none⟩
  | .ldLA => ⟨"LD L,A", 1, 1, none⟩
  | .ldAtHlB => ⟨"LD [HL],B", 1, 2, none⟩
  | .ldAtHlC => ⟨"LD [HL],C", 1, 2, none⟩
  | .ldAtHlD => ⟨"LD [HL],D", 1, 2, none⟩
  | .ldAtHlE => ⟨"LD [HL],E", 1, 2, none⟩
  | .ldAtHlH => ⟨"LD [HL],H", 1, 2, none⟩
  | .ldAtHlL => ⟨"LD [HL],L", 1, 2, none⟩
  | .halt => ⟨"HALT", 1, 1, none⟩
  | .ldAtHlA => ⟨"LD [HL],A", 1, 2, none⟩
  | .ldAB => ⟨"LD A,B", 1, 1, none⟩
  | .ldAC => ⟨"LD A,C", 1, 1, none⟩
  | .ldAD => ⟨"LD A,D", 1, 1, none⟩
  | .ldAE => ⟨"LD A,E", 1, 1, none⟩
  | .ldAH => ⟨"LD A,H", 1, 1, none⟩
  | .ldAL => ⟨"LD A,L", 1, 1, none⟩
  | .ldAAtHl => ⟨"LD A,[HL]", 1, 2, none⟩
  | .ldAA => ⟨"LD A,A", 1, 1, none⟩
  | .addAB => ⟨"ADD A,B", 1, 1, none⟩
  | .addAC => ⟨"ADD A,C", 1, 1, none⟩
  | .addAD => ⟨"ADD A,D", 1, 1, none⟩
  | .addAE => ⟨"ADD A,E", 1, 1, none⟩
  | .addAH => ⟨"ADD A,H", 1, 1, none⟩
  | .addAL => ⟨"ADD A,L", 1, 1, none⟩
  | .addAAtHl => ⟨"ADD A,[HL]", 1, 2, none⟩
  | .addAA => ⟨"ADD A,A", 1, 1, none⟩
  | .adcAB => ⟨"ADC A,B", 1, 1, none⟩
  | .adcAC => ⟨"ADC A,C", 1, 1, none⟩
  | .adcAD => ⟨"ADC A,D", 1, 1, none⟩
  | .adcAE => ⟨"ADC A,E", 1, 1, none⟩
  | .adcAH => ⟨"ADC A,H", 1, 1, none⟩
  | .adcAL => ⟨"ADC A,L", 1, 1, none⟩
  | .adcAAtHl => ⟨"ADC A,[HL]", 1, 2, none⟩
  | .adcAA => ⟨"ADC A,A", 1, 1, none⟩
  | .subAB => ⟨"SUB A,B", 1, 1, none⟩
  | .subAC => ⟨"SUB A,C", 1, 1, none⟩
  | .subAD => ⟨"SUB A,D", 1, 1, none⟩
  | .subAE => ⟨"SUB A,E", 1, 1, none⟩
  | .subAH => ⟨"SUB A,H", 1, 1, none⟩
  | .subAL => ⟨"SUB A,L", 1, 1, none⟩
  | .subAAtHl => ⟨"SUB A,[HL]", 1, 2, none⟩
  | .subAA => ⟨"SUB A,A", 1, 1, none⟩
  | .sbcAB => ⟨"SBC A,B", 1, 1, none⟩
  | .sbcAC => ⟨"SBC A,C", 1, 1, none⟩
  | .sbcAD => ⟨"SBC A,D", 1, 1, none⟩
  | .sbcAE => ⟨"SBC A,E", 1, 1, none⟩
  | .sbcAH => ⟨"SBC A,H", 1, 1, none⟩
  | .sbcAL => ⟨"SBC A,L", 1, 1, none⟩
  | .sbcAAtHl => ⟨"SBC A,[HL]", 1, 2, none⟩
  | .sbcAA => ⟨"SBC A,A", 1, 1, none⟩
  | .andAB => ⟨"AND A,B", 1, 1, none⟩
  | .andAC => ⟨"AND A,C", 1, 1, none⟩
  | .andAD => ⟨"AND A,D", 1, 1, none⟩
  | .andAE => ⟨"AND A,E", 1, 1, none⟩
  | .andAH => ⟨"AND A,H", 1, 1, none⟩
  | .andAL => ⟨"AND A,L", 1, 1, none⟩
  | .andAAtHl => ⟨"AND A,[HL]", 1, 2, none⟩
  | .andAA => ⟨"AND A,A", 1, 1, none⟩
  | .xorAB => ⟨"XOR A,B", 1, 1, none⟩
  | .xorAC => ⟨"XOR A,C", 1, 1, none⟩
  | .xorAD => ⟨"XOR A,D", 1, 1, none⟩
  | .xorAE => ⟨"XOR A,E", 1, 1, none⟩
  | .xorAH => ⟨"XOR A,H", 1, 1, none⟩
  | .xorAL => ⟨"XOR A,L", 1, 1, none⟩
  | .xorAAtHl => ⟨"XOR A,[HL]", 1, 2, none⟩
  | .xorAA => ⟨"XOR A,A", 1, 1, none⟩
  | .orAB => ⟨"OR A,B", 1, 1, none⟩
  | .orAC => ⟨"OR A,C", 1, 1, none⟩
  | .orAD => ⟨"OR A,D", 1, 1, none⟩
  | .orAE => ⟨"OR A,E", 1, 1, none⟩
  | .orAH => ⟨"OR A,H", 1, 1, none⟩
  | .orAL => ⟨"OR A,L", 1, 1, none⟩
  | .orAAtHl => ⟨"OR A,[HL]", 1, 2, none⟩
  | .orAA => ⟨"OR A,A", 1, 1, none⟩
  | .cpAB => ⟨"CP A,B", 1, 1, none⟩
  | .cpAC => ⟨"CP A,C", 1, 1, none⟩
  | .cpAD => ⟨"CP A,D", 1, 1, none⟩
  | .cpAE => ⟨"CP A,E", 1, 1, none⟩
  | .cpAH => ⟨"CP A,H", 1, 1, none⟩
  | .cpAL => ⟨"CP A,L", 1, 1, none⟩
  | .cpAAtHl => ⟨"CP A,[HL]", 1, 2, none⟩
  | .cpAA => ⟨"CP A,A", 1, 1, none⟩
  | .retNz => ⟨"RET NZ", 1, 5, some 2⟩
  | .popBc => ⟨"POP BC", 1, 3, none⟩
  | .jpNzN16 _ => ⟨"JP NZ,n16", 3, 4, some 3⟩
  | .jpN16 _ => ⟨"JP n16", 3, 4, none⟩
  | .callNzN16 _ => ⟨"CALL NZ,n16", 3, 6, some 3⟩
  | .pushBc => ⟨"PUSH BC", 1, 4, none⟩
  | .addAN8 _ => ⟨"ADD A,n8", 2, 2, none⟩
  | .rst00 => ⟨"RST 0x00", 1, 4, none⟩
  | .retZ => ⟨"RET Z", 1, 5, some 2⟩
  | .ret => ⟨"RET", 1, 4, none⟩
  | .jpZN16 _ => ⟨"JP Z,n16", 3, 4, some 3⟩
  | .callZN16 _ => ⟨"CALL Z,n16", 3, 6, some 3⟩
  | .callN16 _ => ⟨"CALL n16", 3, 6, none⟩
  | .adcAN8 _ => ⟨"ADC A,n8", 2, 2, none⟩
  | .rst08 => ⟨"RST 0x08", 1, 4, none⟩
  | .retNc => ⟨"RET NC", 1, 5, some 2⟩
  | .popDe => ⟨"POP DE", 1, 3, none⟩
  | .jpNcN16 _ => ⟨"JP NC,n16", 3, 4, some 3⟩
  | .callNcN16 _ => ⟨"CALL NC,n16", 3, 6, some 3⟩
  | .pushDe => ⟨"PUSH DE", 1, 4, none⟩
  | .subAN8 _ => ⟨"SUB A,n8", 2, 2, none⟩
  | .rst10 => ⟨"RST 0x10", 1, 4, none⟩
  | .retC => ⟨"RET C", 1, 5, some 2⟩
  | .reti => ⟨"RETI", 1, 4, none⟩
  | .jpCN16 _ => ⟨"JP C,n16", 3, 4, some 3⟩
  | .callCN16 _ => ⟨"CALL C,n16", 3, 6, some 3⟩
  | .sbcAN8 _ => ⟨"SBC A,n8", 2, 2, none⟩
  | .rst18 => ⟨"RST 0x18", 1, 4, none⟩
  | .ldhAtN8A _ => ⟨"LDH [n8],A", 2, 3, none⟩
  | .popHl => ⟨"POP HL", 1, 3, none⟩
  | .ldhAtCA => ⟨"LDH [C],A", 1, 2, none⟩
  | .pushHl => ⟨"PUSH HL", 1, 4, none⟩
  | .andAN8 _ => ⟨"AND A,n8", 2, 2, none⟩
  | .rst20 => ⟨"RST 0x20", 1, 4, none⟩
  | .addSpE8 _ => ⟨"ADD SP,e8", 2, 4, none⟩
  | .jpHl => ⟨"JP HL", 1, 1, none⟩
  | .ldAtN16A _ => ⟨"LD [n16],A", 3, 4, none⟩
  | .xorAN8 _ => ⟨"XOR A,n8", 2, 2, none⟩
  | .rst28 => ⟨"RST 0x28", 1, 4, none⟩
  | .ldhAAtN8 _ => ⟨"LDH A,[n8]", 2, 3, none⟩
  | .popAf => ⟨"POP AF", 1, 3, none⟩
  | .ldhAAtC => ⟨"LDH A,[C]", 1, 2, none⟩
  | .di => ⟨"DI", 1, 1, none⟩
  | .pushAf => ⟨"PUSH AF", 1, 4, none⟩
  | .orAN8 _ => ⟨"OR A,n8", 2, 2, none⟩
  | .rst30 => ⟨"RST 0x30", 1, 4, none⟩
  | .ldHlSpE8 _ => ⟨"LD HL,SP+e8", 2, 3, none⟩
  | .ldSpHl => ⟨"LD SP,HL", 1, 2, none⟩
  | .ldAAtN16 _ => ⟨"LD A,[n16]", 3, 4, none⟩
  | .ei => ⟨"EI", 1, 1, none⟩
  | .cpAN8 _ => ⟨"CP A,n8", 2, 2, none⟩
  | .rst38 => ⟨"RST 0x38", 1, 4, none⟩
  | .rlcB => ⟨"RLC B", 2, 2, none⟩
  | .rlcC => ⟨"RLC C", 2, 2, none⟩
  | .rlcD => ⟨"RLC D", 2, 2, none⟩
  | .rlcE => ⟨"RLC E", 2, 2, none⟩
  | .rlcH => ⟨"RLC H", 2, 2, none⟩
  | .rlcL => ⟨"RLC L", 2, 2, none⟩
  | .rlcAtHl => ⟨"RLC [HL]", 2, 4, none⟩
  | .rlcA => ⟨"RLC A", 2, 2, none⟩
  | .rrcB => ⟨"RRC B", 2, 2, none⟩
  | .rrcC => ⟨"RRC C", 2, 2, none⟩
  | .rrcD => ⟨"RRC D", 2, 2, none⟩
  | .rrcE => ⟨"RRC E", 2, 2, none⟩
  | .rrcH => ⟨"RRC H", 2, 2, none⟩
  | .rrcL => ⟨"RRC L", 2, 2, none⟩
  | .rrcAtHl => ⟨"RRC [HL]", 2, 4, none⟩
  | .rrcA => ⟨"RRC A", 2, 2, none⟩
  | .rlB => ⟨"RL B", 2, 2, none⟩
  | .rlC => ⟨"RL C", 2, 2, none⟩
  | .rlD => ⟨"RL D", 2, 2, none⟩
  | .rlE => ⟨"RL E", 2, 2, none⟩
  | .rlH => ⟨"RL H", 2, 2, none⟩
  | .rlL => ⟨"RL L", 2, 2, none⟩
  | .rlAtHl => ⟨"RL [HL]", 2, 4, none⟩
  | .rlA => ⟨"RL A", 2, 2, none⟩
  | .rrB => ⟨"RR B", 2, 2, none⟩
  | .rrC => ⟨"RR C", 2, 2, none⟩
  | .rrD => ⟨"RR D", 2, 2, none⟩
  | .rrE => ⟨"RR E", 2, 2, none⟩
  | .rrH => ⟨"RR H", 2, 2, none⟩
  | .rrL => ⟨"RR L", 2, 2, none⟩
  | .rrAtHl => ⟨"RR [HL]", 2, 4, none⟩
  | .rrA => ⟨"RR A", 2, 2, none⟩
  | .slaB => ⟨"SLA B", 2, 2, none⟩
  | .slaC => ⟨"SLA C", 2, 2, none⟩
  | .slaD => ⟨"SLA D", 2, 2, none⟩
  | .slaE => ⟨"SLA E", 2, 2, none⟩
  | .slaH => ⟨"SLA H", 2, 2, none⟩
  | .slaL => ⟨"SLA L", 2, 2, none⟩
  | .slaAtHl => ⟨"SLA [HL]", 2, 4, none⟩
  | .slaA => ⟨"SLA A", 2, 2, none⟩
  | .sraB => ⟨"SRA B", 2, 2, none⟩
  | .sraC => ⟨"SRA C", 2, 2, none⟩
  | .sraD => ⟨"SRA D", 2, 2, none⟩
  | .sraE => ⟨"SRA E", 2, 2, none⟩
  | .sraH => ⟨"SRA H", 2, 2, none⟩
  | .sraL => ⟨"SRA L", 2, 2, none⟩
  | .sraAtHl => ⟨"SRA [HL]", 2, 4, none⟩
  | .sraA => ⟨"SRA A", 2, 2, none⟩
  | .swapB => ⟨"SWAP B", 2, 2, none⟩
  | .swapC => ⟨"SWAP C", 2, 2, none⟩
  | .swapD => ⟨"SWAP D", 2, 2, none⟩
  | .swapE => ⟨"SWAP E", 2, 2, none⟩
  | .swapH => ⟨"SWAP H", 2, 2, none⟩
  | .swapL => ⟨"SWAP L", 2, 2, none⟩
  | .swapAtHl => ⟨"SWAP [HL]", 2, 4, none⟩
  | .swapA => ⟨"SWAP A", 2, 2, none⟩
  | .srlB => ⟨"SRL B", 2, 2, none⟩
  | .srlC => ⟨"SRL C", 2, 2, none⟩
  | .srlD => ⟨"SRL D", 2, 2, none⟩
  | .srlE => ⟨"SRL E", 2, 2, none⟩
  | .srlH => ⟨"SRL H", 2, 2, none⟩
  | .srlL => ⟨"SRL L", 2, 2, none⟩
  | .srlAtHl => ⟨"SRL [HL]", 2, 4, none⟩
  | .srlA => ⟨"SRL A", 2, 2, none⟩
  | .bit0B => ⟨"BIT 0,B", 2, 2, none⟩
  | .bit0C => ⟨"BIT 0,C", 2, 2, none⟩
  | .bit0D => ⟨"BIT 0,D", 2, 2, none⟩
  | .bit0E => ⟨"BIT 0,E", 2, 2, none⟩
  | .bit0H => ⟨"BIT 0,H", 2, 2, none⟩
  | .bit0L => ⟨"BIT 0,L", 2, 2, none⟩
  | .bit0AtHl => ⟨"BIT 0,[HL]", 2, 3, none⟩
  | .bit0A => ⟨"BIT 0,A", 2, 2, none⟩
  | .bit1B => ⟨"BIT 1,B", 2, 2, none⟩
  | .bit1C => ⟨"BIT 1,C", 2, 2, none⟩
  | .bit1D => ⟨"BIT 1,D", 2, 2, none⟩
  | .bit1E => ⟨"BIT 1,E", 2, 2, none⟩
  | .bit1H => ⟨"BIT 1,H", 2, 2, none⟩
  | .bit1L => ⟨"BIT 1,L", 2, 2, none⟩
  | .bit1AtHl => ⟨"BIT 1,[HL]", 2, 3, none⟩
  | .bit1A => ⟨"BIT 1,A", 2, 2, none⟩
  | .bit2B => ⟨"BIT 2,B", 2, 2, none⟩
  | .bit2C => ⟨"BIT 2,C", 2, 2, none⟩
  | .bit2D => ⟨"BIT 2,D", 2, 2, none⟩
  | .bit2E => ⟨"BIT 2,E", 2, 2, none⟩
  | .bit2H => ⟨"BIT 2,H", 2, 2, none⟩
  | .bit2L => ⟨"BIT 2,L", 2, 2, none⟩
  | .bit2AtHl => ⟨"BIT 2,[HL]", 2, 3, none⟩
  | .bit2A => ⟨"BIT 2,A", 2, 2, none⟩
  | .bit3B => ⟨"BIT 3,B", 2, 2, none⟩
  | .bit3C => ⟨"BIT 3,C", 2, 2, none⟩
  | .bit3D => ⟨"BIT 3,D", 2, 2, none⟩
  | .bit3E => ⟨"BIT 3,E", 2, 2, none⟩
  | .bit3H => ⟨"BIT 3,H", 2, 2, none⟩
  | .bit3L => ⟨"BIT 3,L", 2, 2, none⟩
  | .bit3AtHl => ⟨"BIT 3,[HL]", 2, 3, none⟩
  | .bit3A => ⟨"BIT 3,A", 2, 2, none⟩
  | .bit4B => ⟨"BIT 4,B", 2, 2, none⟩
  | .bit4C => ⟨"BIT 4,C", 2, 2, none⟩
  | .bit4D => ⟨"BIT 4,D", 2, 2, none⟩
  | .bit4E => ⟨"BIT 4,E", 2, 2, none⟩
  | .bit4H => ⟨"BIT 4,H", 2, 2, none⟩
  | .bit4L => ⟨"BIT 4,L", 2, 2, none⟩
  | .bit4AtHl => ⟨"BIT 4,[HL]", 2, 3, none⟩
  | .bit4A => ⟨"BIT 4,A", 2, 2, none⟩
  | .bit5B => ⟨"BIT 5,B", 2, 2, none⟩
  | .bit5C => ⟨"BIT 5,C", 2, 2, none⟩
  | .bit5D => ⟨"BIT 5,D", 2, 2, none⟩
  | .bit5E => ⟨"BIT 5,E", 2, 2, none⟩
  | .bit5H => ⟨"BIT 5,H", 2, 2, none⟩
  | .bit5L => ⟨"BIT 5,L", 2, 2, none⟩
  | .bit5AtHl => ⟨"BIT 5,[HL]", 2, 3, none⟩
  | .bit5A => ⟨"BIT 5,A", 2, 2, none⟩
  | .bit6B => ⟨"BIT 6,B", 2, 2, none⟩
  | .bit6C => ⟨"BIT 6,C", 2, 2, none⟩
  | .bit6D => ⟨"BIT 6,D", 2, 2, none⟩
  | .bit6E => ⟨"BIT 6,E", 2, 2, none⟩
  | .bit6H => ⟨"BIT 6,H", 2, 2, none⟩
  | .bit6L => ⟨"BIT 6,L", 2, 2, none⟩
  | .bit6AtHl => ⟨"BIT 6,[HL]", 2, 3, none⟩
  | .bit6A => ⟨"BIT 6,A", 2, 2, none⟩
  | .bit7B => ⟨"BIT 7,B", 2, 2, none⟩
  | .bit7C => ⟨"BIT 7,C", 2, 2, none⟩
  | .bit7D => ⟨"BIT 7,D", 2, 2, none⟩
  | .bit7E => ⟨"BIT 7,E", 2, 2, none⟩
  | .bit7H => ⟨"BIT 7,H", 2, 2, none⟩
  | .bit7L => ⟨"BIT 7,L", 2, 2, none⟩
  | .bit7AtHl => ⟨"BIT 7,[HL]", 2, 3, none⟩
  | .bit7A => ⟨"BIT 7,A", 2, 2, none⟩
  | .res0B => ⟨"RES 0,B", 2, 2, none⟩
  | .res0C => ⟨"RES 0,C", 2, 2, none⟩
  | .res0D => ⟨"RES 0,D", 2, 2, none⟩
  | .res0E => ⟨"RES 0,E", 2, 2, none⟩
  | .res0H => ⟨"RES 0,H", 2, 2, none⟩
  | .res0L => ⟨"RES 0,L", 2, 2, none⟩
  | .res0AtHl => ⟨"RES 0,[HL]", 2, 4, none⟩
  | .res0A => ⟨"RES 0,A", 2, 2, none⟩
  | .res1B => ⟨"RES 1,B", 2, 2, none⟩
  | .res1C => ⟨"RES 1,C", 2, 2, none⟩
  | .res1D => ⟨"RES 1,D", 2, 2, none⟩
  | .res1E => ⟨"RES 1,E", 2, 2, none⟩
  | .res1H => ⟨"RES 1,H", 2, 2, none⟩
  | .res1L => ⟨"RES 1,L", 2, 2, none⟩
  | .res1AtHl => ⟨"RES 1,[HL]", 2, 4, none⟩
  | .res1A => ⟨"RES 1,A", 2, 2, none⟩
  | .res2B => ⟨"RES 2,B", 2, 2, none⟩
  | .res2C => ⟨"RES 2,C", 2, 2, none⟩
  | .res2D => ⟨"RES 2,D", 2, 2, none⟩
  | .res2E => ⟨"RES 2,E", 2, 2, none⟩
  | .res2H => ⟨"RES 2,H", 2, 2, none⟩
  | .res2L => ⟨"RES 2,L", 2, 2, none⟩
  | .res2AtHl => ⟨"RES 2,[HL]", 2, 4, none⟩
  | .res2A => ⟨"RES 2,A", 2, 2, none⟩
  | .res3B => ⟨"RES 3,B", 2, 2, none⟩
  | .res3C => ⟨"RES 3,C", 2, 2, none⟩
  | .res3D => ⟨"RES 3,D", 2, 2, none⟩
  | .res3E => ⟨"RES 3,E", 2, 2, none⟩
  | .res3H => ⟨"RES 3,H", 2, 2, none⟩
  | .res3L => ⟨"RES 3,L", 2, 2, none⟩
  | .res3AtHl => ⟨"RES 3,[HL]", 2, 4, none⟩
  | .res3A => ⟨"RES 3,A", 2, 2, none⟩
  | .res4B => ⟨"RES 4,B", 2, 2, none⟩
  | .res4C => ⟨"RES 4,C", 2, 2, none⟩
  | .res4D => ⟨"RES 4,D", 2, 2, none⟩
  | .res4E => ⟨"RES 4,E", 2, 2, none⟩
  | .res4H => ⟨"RES 4,H", 2, 2, none⟩
  | .res4L => ⟨"RES 4,L", 2, 2, none⟩
  | .res4AtHl => ⟨"RES 4,[HL]", 2, 4, none⟩
  | .res4A => ⟨"RES 4,A", 2, 2, none⟩
  | .res5B => ⟨"RES 5,B", 2, 2, none⟩
  | .res5C => ⟨"RES 5,C", 2, 2, none⟩
  | .res5D => ⟨"RES 5,D", 2, 2, none⟩
  | .res5E => ⟨"RES 5,E", 2, 2, none⟩
  | .res5H => ⟨"RES 5,H", 2, 2, none⟩
  | .res5L => ⟨"RES 5,L", 2, 2, none⟩
  | .res5AtHl => ⟨"RES 5,[HL]", 2, 4, none⟩
  | .res5A => ⟨"RES 5,A", 2, 2, none⟩
  | .res6B => ⟨"RES 6,B", 2, 2, none⟩
  | .res6C => ⟨"RES 6,C", 2, 2, none⟩
  | .res6D => ⟨"RES 6,D", 2, 2, none⟩
  | .res6E => ⟨"RES 6,E", 2, 2, none⟩
  | .res6H => ⟨"RES 6,H", 2, 2, none⟩
  | .res6L => ⟨"RES 6,L", 2, 2, none⟩
  | .res6AtHl => ⟨"RES 6,[HL]", 2, 4, none⟩
  | .res6A => ⟨"RES 6,A", 2, 2, none⟩
  | .res7B => ⟨"RES 7,B", 2, 2, none⟩
  | .res7C => ⟨"RES 7,C", 2, 2, none⟩
  | .res7D => ⟨"RES 7,D", 2, 2, none⟩
  | .res7E => ⟨"RES 7,E", 2, 2, none⟩
  | .res7H => ⟨"RES 7,H", 2, 2, none⟩
  | .res7L => ⟨"RES 7,L", 2, 2, none⟩
  | .res7AtHl => ⟨"RES 7,[HL]", 2, 4, none⟩
  | .res7A => ⟨"RES 7,A", 2, 2, none⟩
  | .set0B => ⟨"SET 0,B", 2, 2, none⟩
  | .set0C => ⟨"SET 0,C", 2, 2, none⟩
  | .set0D => ⟨"SET 0,D", 2, 2, none⟩
  | .set0E => ⟨"SET 0,E", 2, 2, none⟩
  | .set0H => ⟨"SET 0,H", 2, 2, none⟩
  | .set0L => ⟨"SET 0,L", 2, 2, none⟩
  | .set0AtHl => ⟨"SET 0,[HL]", 2, 4, none⟩
  | .set0A => ⟨"SET 0,A", 2, 2, none⟩
  | .set1B => ⟨"SET 1,B", 2, 2, none⟩
  | .set1C => ⟨"SET 1,C", 2, 2, none⟩
  | .set1D => ⟨"SET 1,D", 2, 2, none⟩
  | .set1E => ⟨"SET 1,E", 2, 2, none⟩
  | .set1H => ⟨"SET 1,H", 2, 2, none⟩
  | .set1L => ⟨"SET 1,L", 2, 2, none⟩
  | .set1AtHl => ⟨"SET 1,[HL]", 2, 4, none⟩
  | .set1A => ⟨"SET 1,A", 2, 2, none⟩
  | .set2B => ⟨"SET 2,B", 2, 2, none⟩
  | .set2C => ⟨"SET 2,C", 2, 2, none⟩
  | .set2D => ⟨"SET 2,D", 2, 2, none⟩
  | .set2E => ⟨"SET 2,E", 2, 2, none⟩
  | .set2H => ⟨"SET 2,H", 2, 2, none⟩
  | .set2L => ⟨"SET 2,L", 2, 2, none⟩
  | .set2AtHl => ⟨"SET 2,[HL]", 2, 4, none⟩
  | .set2A => ⟨"SET 2,A", 2, 2, none⟩
  | .set3B => ⟨"SET 3,B", 2, 2, none⟩
  | .set3C => ⟨"SET 3,C", 2, 2, none⟩
  | .set3D => ⟨"SET 3,D", 2, 2, none⟩
  | .set3E => ⟨"SET 3,E", 2, 2, none⟩
  | .set3H => ⟨"SET 3,H", 2, 2, none⟩
  | .set3L => ⟨"SET 3,L", 2, 2, none⟩
  | .set3AtHl => ⟨"SET 3,[HL]", 2, 4, none⟩
  | .set3A => ⟨"SET 3,A", 2, 2, none⟩
  | .set4B => ⟨"SET 4,B", 2, 2, none⟩
  | .set4C => ⟨"SET 4,C", 2, 2, none⟩
  | .set4D => ⟨"SET 4,D", 2, 2, none⟩
  | .set4E => ⟨"SET 4,E", 2, 2, none⟩
  | .set4H => ⟨"SET 4,H", 2, 2, none⟩
  | .set4L => ⟨"SET 4,L", 2, 2, none⟩
  | .set4AtHl => ⟨"SET 4,[HL]", 2, 4, none⟩
  | .set4A => ⟨"SET 4,A", 2, 2, none⟩
  | .set5B => ⟨"SET 5,B", 2, 2, none⟩
  | .set5C => ⟨"SET 5,C", 2, 2, none⟩
  | .set5D => ⟨"SET 5,D", 2, 2, none⟩
  | .set5E => ⟨"SET 5,E", 2, 2, none⟩
  | .set5H => ⟨"SET 5,H", 2, 2, none⟩
  | .set5L => ⟨"SET 5,L", 2, 2, none⟩
  | .set5AtHl => ⟨"SET 5,[HL]", 2, 4, none⟩
  | .set5A => ⟨"SET 5,A", 2, 2, none⟩
  | .set6B => ⟨"SET 6,B", 2, 2, none⟩
  | .set6C => ⟨"SET 6,C", 2, 2, none⟩
  | .set6D => ⟨"SET 6,D", 2, 2, none⟩
  | .set6E => ⟨"SET 6,E", 2, 2, none⟩
  | .set6H => ⟨"SET 6,H", 2, 2, none⟩
  | .set6L => ⟨"SET 6,L", 2, 2, none⟩
  | .set6AtHl => ⟨"SET 6,[HL]", 2, 4, none⟩
  | .set6A => ⟨"SET 6,A", 2, 2, none⟩
  | .set7B => ⟨"SET 7,B", 2, 2, none⟩
  | .set7C => ⟨"SET 7,C", 2, 2, none⟩
  | .set7D => ⟨"SET 7,D", 2, 2, none⟩
  | .set7E => ⟨"SET 7,E", 2, 2, none⟩
  | .set7H => ⟨"SET 7,H", 2, 2, none⟩
  | .set7L => ⟨"SET 7,L", 2, 2, none⟩
  | .set7AtHl => ⟨"SET 7,[HL]", 2, 4, none⟩
  | .set7A => ⟨"SET 7,A", 2, 2, none⟩
  | .prefixCb => ⟨"PREFIX CB", 1, 1, none⟩
  | .illegalD3 => ⟨"ILLEGAL", 1, 1, none⟩
  | .illegalDB => ⟨"ILLEGAL", 1, 1, none⟩
  | .illegalDD => ⟨"ILLEGAL", 1, 1, none⟩
  | .illegalE3 => ⟨"ILLEGAL", 1, 1, none⟩
  | .illegalE4 => ⟨"ILLEGAL", 1, 1, none⟩
  | .illegalEB => ⟨"ILLEGAL", 1, 1, none⟩
  | .illegalEC => ⟨"ILLEGAL", 1, 1, none⟩
  | .illegalED => ⟨"ILLEGAL", 1, 1, none⟩
  | .illegalF4 => ⟨"ILLEGAL", 1, 1, none⟩
  | .illegalFC => ⟨"ILLEGAL", 1, 1, none⟩
  | .illegalFD => ⟨"ILLEGAL", 1, 1, none⟩

end Sys2Proof.Machine
end

