-- ==== Sys2Proof/Safety.lean ====
section
/-! DEFINITION. What counts as a safe run, the invariants of the machine, and the terms its statements use. -/

namespace Sys2Proof.Machine

/-- No fault is latched (R300: "a claim about a program must include 'no fault is latched'"). -/
abbrev State.running (s : State) : Prop := s.fault = none

/-- `k` steps lead from `s` to `t`, none of them a fault (R296). -/
def reaches : Nat → State → State → Prop
  | 0, s, t => s = t
  | k + 1, s, t => ∃ u, step s = .next u ∧ reaches k u t

/-- The low nibble of F is 0 (R13). -/
abbrev State.flagsOk (s : State) : Prop := s.regs.f &&& 0x0F = 0

/-- The constraint of R28 and R362: the delay is a count in 0..4, in 1..4 while a reload is pending. -/
abbrev Timer.ok (tm : Timer) : Prop := tm.reloadDelay ≤ 4 ∧ (tm.overflowPending = true → 1 ≤ tm.reloadDelay)

/-- The divider is a multiple of 4, which R338 says of every M-cycle boundary. -/
abbrev State.phaseOk (s : State) : Prop := s.timer.divCounter.toNat % 4 = 0

/-- The invariant of the machine: F's low nibble, the timer's constraint, the canonical form of memory. -/
abbrev State.inv (s : State) : Prop := s.flagsOk ∧ s.timer.ok ∧ s.mem.wf = true

/-- A bus write at `addr` reaches a cell: a plain store, the baseline's cartridge RAM, or VRAM or OAM while not blocked (R42 to R47,
R55). -/
def writesCell (addr : Word) (s : State) : Bool :=
  match region addr with
  | .rom0 => false
  | .romX => false
  | .vram => !s.vramBlocked
  | .cartRam => decide (s.inputs.cartRam = .plain)
  | .wram => true
  | .echo => true
  | .oam => !s.oamBlocked
  | .unusable => false
  | .joypadSerial => false
  | .div => false
  | .tima => false
  | .tma => false
  | .tac => false
  | .iflag => false
  | .ppuRegs => false
  | .unmapped => false
  | .hram => true
  | .ie => false

/-- `n` T-cycles. -/
def ticks : Nat → State → State
  | 0, s => s
  | n + 1, s => ticks n (tick s)

/-- `n` M-cycles without an access (R293). -/
def internals : Nat → State → State
  | 0, s => s
  | n + 1, s => internals n (internal s)

/-- The state after `n` bytes of an instruction have been fetched. -/
def fetched (n : Nat) (s : State) : State := (internals n s).setPc (s.regs.pc + BitVec.ofNat 16 n)

/-- The bytes that the next fetches give, each read at the end of its own M-cycle. -/
def fetches : List Byte → State → Prop
  | [], _ => True
  | b :: bs, s => busRead s.regs.pc (internal s) = some b ∧ fetches bs (fetched 1 s)

/-- The eleven illegal rows, each with its byte (R93). -/
def illegalRows : List (Instr × Byte) :=
  [(.illegalD3, 0xD3), (.illegalDB, 0xDB), (.illegalDD, 0xDD), (.illegalE3, 0xE3), (.illegalE4, 0xE4), (.illegalEB, 0xEB),
    (.illegalEC, 0xEC), (.illegalED, 0xED), (.illegalF4, 0xF4), (.illegalFC, 0xFC), (.illegalFD, 0xFD)]

/-! What a statement about one instruction says of the state after it. -/

/-- `t` is `s` after `k` M-cycles in which only registers were written; every byte of memory reads as before. -/
def State.onlyRegs (s : State) (k : Nat) (t : State) : Prop :=
  t = { internals k s with regs := t.regs } ∧ ∀ a, t.cell a = s.cell a

/-- Every 8-bit register but those listed keeps its value. -/
def State.keeps8 (s : State) (written : List Reg8) (t : State) : Prop := ∀ r, r ∉ written → t.get8 r = s.get8 r

/-- F keeps its value. -/
def State.keepsF (s t : State) : Prop := t.regs.f = s.regs.f

/-- SP and PC keep their values. -/
def State.keepsSpPc (s t : State) : Prop := t.regs.sp = s.regs.sp ∧ t.regs.pc = s.regs.pc

/-- The four flags and the low nibble of F. -/
def State.hasFlags (t : State) (z n h cy : Bool) : Prop := t.zf = z ∧ t.nf = n ∧ t.hf = h ∧ t.cf = cy ∧ t.flagsOk

/-- Every byte of memory reads in `t` as in `s`, but for the cell that a write at `addr` reaches after `k` M-cycles. -/
def State.storesAt (s : State) (k : Nat) (addr : Word) (t : State) : Prop :=
  ∀ a, (writesCell addr (internals k s) = true → a ≠ cellOf addr) → t.cell a = s.cell a

/-- `w` is `s` after `k` M-cycles and the two writes of a push of `v`: the high byte at SP - 1, one M-cycle later the low
byte at SP - 2; every byte of memory reads as before but for the cells these writes reach. -/
def State.pushed (s : State) (k : Nat) (v : Word) (w : State) : Prop :=
  ∃ u, busWrite (s.regs.sp - 1) (hiByte v) (internals (k + 1) s) = some u ∧
    busWrite (s.regs.sp - 2) (loByte v) (internal u) = some w ∧
    ∀ a, (writesCell (s.regs.sp - 1) (internals (k + 1) s) = true → a ≠ cellOf (s.regs.sp - 1)) →
      (writesCell (s.regs.sp - 2) (internal u) = true → a ≠ cellOf (s.regs.sp - 2)) → w.cell a = s.cell a

/-- The two reads of a pop give `v` after `k` M-cycles: the low byte at SP, one M-cycle later the high byte at SP + 1. -/
def State.pops (s : State) (k : Nat) (v : Word) : Prop :=
  busRead s.regs.sp (internals (k + 1) s) = some (loByte v) ∧
    busRead (s.regs.sp + 1) (internals (k + 2) s) = some (hiByte v)

/-- `i` is a form of `op` whose operand has the value `v` after `k` M-cycles: a register, `n8`, or the byte at HL. -/
def aluForm (op : AluOp) (i : Instr) (v : Byte) (k : Nat) (s : State) : Prop :=
  (∃ r, i = rowAluReg op r ∧ v = s.get8 r ∧ k = 0) ∨ (i = rowAluN8 op v ∧ k = 0) ∨
    (i = rowAluAtHl op ∧ busRead s.hl (internal s) = some v ∧ k = 1)

/-- The eight functions of R160 on numbers: the result and the bit shifted out. -/
def rotNat (op : RotOp) (v c : Nat) : Nat × Nat :=
  match op with
  | .rlc => ((2 * v + v / 128) % 256, v / 128)
  | .rrc => (v / 2 + 128 * (v % 2), v % 2)
  | .rl => ((2 * v + c) % 256, v / 128)
  | .rr => (v / 2 + 128 * c, v % 2)
  | .sla => (2 * v % 256, v / 128)
  | .sra => (v / 2 + 128 * (v / 128), v % 2)
  | .swap => ((16 * v + v / 16) % 256, 0)
  | .srl => (v / 2, v % 2)

/-- The condition of a conditional instruction in words of the flags (R240). -/
def condHolds (cc : Cond) (s : State) : Prop :=
  match cc with
  | .nz => s.zf = false
  | .z => s.zf = true
  | .nc => s.cf = false
  | .c => s.cf = true

/-- `i` is conditional on `cc`: JP, JR, CALL or RET (R240). -/
def condForm (cc : Cond) (i : Instr) : Prop :=
  (∃ n, i = rowJpCc cc n) ∨ (∃ e, i = rowJrCc cc e) ∨ (∃ n, i = rowCallCc cc n) ∨ i = rowRetCc cc

/-- `addr` is the address of the first access that `i` makes after its fetches, with no internal M-cycle before it. -/
def accessesFirst (i : Instr) (s : State) (addr : Word) : Prop :=
  (addr = s.hl ∧ ((∃ r, i = rowLdRegAtHl r ∨ i = rowLdAtHlReg r) ∨ (∃ n, i = .ldAtHlN8 n) ∨ (∃ op, i = rowAluAtHl op) ∨
      (∃ op, i = rowRotAtHl op) ∨ (∃ b, i = rowBitAtHl b ∨ i = rowResAtHl b ∨ i = rowSetAtHl b) ∨
      i = .incAtHl ∨ i = .decAtHl ∨ i = .ldAAtHli ∨ i = .ldAAtHld ∨ i = .ldAtHliA ∨ i = .ldAtHldA)) ∨
    (addr = s.get16 .bc ∧ (i = .ldAAtBc ∨ i = .ldAtBcA)) ∨ (addr = s.get16 .de ∧ (i = .ldAAtDe ∨ i = .ldAtDeA)) ∨
    i = .ldAAtN16 addr ∨ i = .ldAtN16A addr ∨ i = .ldAtN16Sp addr ∨
    (∃ n, addr = 0xFF00 + n.setWidth 16 ∧ (i = .ldhAAtN8 n ∨ i = .ldhAtN8A n)) ∨
    (addr = 0xFF00 + s.regs.c.setWidth 16 ∧ (i = .ldhAAtC ∨ i = .ldhAtCA)) ∨
    (addr = s.regs.pc ∧ i = .prefixCb)

/-- `i` pushes `v` after one internal M-cycle: PUSH, CALL, a CALL taken, RST. -/
def pushForm (i : Instr) (v : Word) (s : State) : Prop :=
  (∃ p, i = rowPush p ∧ v = s.getStk p) ∨
    (v = s.regs.pc ∧ ((∃ n, i = .callN16 n) ∨ (∃ cc n, condHolds cc s ∧ i = rowCallCc cc n) ∨ ∃ y, i = rowRst y))

/-- `i` pops after `k` internal M-cycles: POP, RET, RETI, a RET taken. -/
def popForm (i : Instr) (k : Nat) (s : State) : Prop :=
  (((∃ p, i = rowPop p) ∨ i = .ret ∨ i = .reti) ∧ k = 0) ∨ ∃ cc, condHolds cc s ∧ i = rowRetCc cc ∧ k = 1

/-- The outcome of an access at `addr` that faults in `s`: the latch set, nothing else changed (R302, R303). -/
def unmappedAt (addr : Word) (s : State) : StepResult :=
  .fault (.unmappedAddress addr { s with fault := some (.unmappedAddress addr) })

/-- `m` is the number of M-cycles that the row of `i` gives in a state: the alternate count for a conditional instruction
whose condition does not hold (R98, R380). -/
def tableMcycles (i : Instr) (s : State) (m : Nat) : Prop :=
  (m = (instrInfo i).mcycles ∧ ∀ cc, condForm cc i → condHolds cc s) ∨
    ((instrInfo i).mcyclesNotTaken = some m ∧ ∃ cc, condForm cc i ∧ ¬ condHolds cc s)

/-- The number of a kind's bit (R310). -/
def IntKind.num (k : IntKind) : Nat :=
  match k with
  | .vblank => 0
  | .lcdStat => 1
  | .timer => 2
  | .serial => 3
  | .joypad => 4

/-- The step fetches: nothing is dispatched and the core does not idle (R290 stages 1 and 3). -/
def State.willFetch (s : State) : Prop :=
  s.running ∧ (s.pending = 0 → s.halted = false) ∧ (s.pending ≠ 0 → s.ime = false)

/-- The state in which the step fetches: awake, a scheduled enable applied (R290 stages 1 and 2). -/
def State.atFetch (s : State) : State := { s with halted := false, ime := s.ime || s.imePending, imePending := false }

/-- The stores that no input gates: the baseline's cartridge RAM, WRAM, its echo, HRAM (R45, R46, R55). -/
def State.plainStore (s : State) (addr : Word) : Bool :=
  (region addr == .cartRam && decide (s.inputs.cartRam = .plain)) || region addr == .wram || region addr == .echo ||
    region addr == .hram

/-- `addr` is a register of a device outside the core: ExtIO (R50, R54), or an address of a cartridge other than the baseline (R43,
R45). -/
def State.outsideAt (s : State) (addr : Word) : Prop :=
  (addr.toNat < 0x8000 ∧ s.inputs.cartRom = .other) ∨
    (0xA000 ≤ addr.toNat ∧ addr.toNat < 0xC000 ∧ s.inputs.cartRam = .other) ∨
    (0xFF00 ≤ addr.toNat ∧ addr.toNat ≤ 0xFF02) ∨ (0xFF40 ≤ addr.toNat ∧ addr.toNat ≤ 0xFF4B)

/-- What a device outside the core answers at the present T-cycle: the first answer that the configuration lists for it, else the
free value. Log entries 4, 5. -/
def State.outsideAnswer (s : State) (addr : Word) : Byte :=
  let first := fun l : List (Nat × Byte) => (l.find? fun e => e.1 == s.t).map Prod.snd
  if addr.toNat < 0xC000 then (first s.inputs.cart).getD (Config.cartRead s.cartWrites s.t addr)
  else (first s.inputs.extIo).getD (Config.extIoDraw s.t addr)

/-- A wrap of TIMA has just armed a reload (R333): TIMA is 0, the delay is whole, and the signal that TIMA counts is 0, so that
no count can fall into the window. -/
def Timer.armed (tm : Timer) : Prop :=
  tm.overflowPending = true ∧ tm.reloadDelay = 4 ∧ tm.tima = 0 ∧ timerSignal tm.tac tm.divCounter = false

end Sys2Proof.Machine
end

