-- ==== Sys2Proof/Certificates/Slice0/Obligations.lean ====
section
/-! DEFINITION. The statements about the machine, in five groups: reset and invariants, encoding, instructions, the step and its
exceptions, the bus and the timer. Every statement about an instruction says when `exec` answers a next state and what that state
is; `State.onlyRegs`, `State.keeps8`, `State.storesAt`, `State.pushed` (Safety) say what is left unchanged. -/

open Sys2Proof Sys2Proof.Machine

/-! Reset and invariants. -/

/-- R360, for every choice of the parameters that R362 and R363 leave open: the ten registers at reset, and as pairs. -/
def Obligations.ResetRegisters : Prop :=
  ∀ (aux : ResetAux) (image : Memory) (inputs : Inputs),
    let s := State.resetWith aux image inputs
    s.regs.a = 0x01 ∧ s.regs.f = 0xB0 ∧ s.regs.b = 0x00 ∧ s.regs.c = 0x13 ∧ s.regs.d = 0x00 ∧ s.regs.e = 0xD8 ∧
      s.regs.h = 0x01 ∧ s.regs.l = 0x4D ∧ s.regs.sp = 0xFFFE ∧ s.regs.pc = 0x0100 ∧
      s.zf = true ∧ s.nf = false ∧ s.hf = true ∧ s.cf = true ∧
      s.getStk .af = 0x01B0 ∧ s.get16 .bc = 0x0013 ∧ s.get16 .de = 0x00D8 ∧ s.get16 .hl = 0x014D ∧
      State.reset.regs = s.regs

/-- The machine right after reset meets the invariants below; so does the reset state of every choice of parameters that meets
the constraint of R362 and has a canonical image. That the divider is 0 in `State.reset` is the baseline (log entry 1). -/
def Obligations.ResetMeetsInvariants : Prop :=
  (State.reset.inv ∧ State.reset.phaseOk ∧ State.reset.running) ∧
    ∀ (aux : ResetAux) (image : Memory) (inputs : Inputs), aux.timer.ok → image.wf = true →
      (State.resetWith aux image inputs).inv ∧ (State.resetWith aux image inputs).running

/-- Every step keeps the invariant: F's low nibble is 0 (R13), the reload delay is in 0..4 and in 1..4 while a reload is pending
(R28, R362), memory is in its canonical form (log entry 3). -/
def Obligations.StepKeepsInvariant : Prop :=
  ∀ s t : State, s.inv → step s = .next t → t.inv

/-- R378: no sequence of steps makes F's low nibble non-zero; and PUSH AF followed by POP BC gives C a low nibble of 0 wherever
the two stack bytes are bytes of a store that nothing gates, the baseline's cartridge RAM among them (log entry 4). -/
def Obligations.FlagLowNibbleStaysZero : Prop :=
  (∀ (n : Nat) (s t : State), s.flagsOk → reaches n s t → t.regs.f &&& 0x0F = 0) ∧
    ∀ s : State, s.flagsOk → s.plainStore (s.regs.sp - 1) = true → s.plainStore (s.regs.sp - 2) = true →
      ∃ t u, exec .pushAf s = .next t ∧ exec .popBc t = .next u ∧ u.regs.c &&& 0x0F = 0

/-- The divider is a multiple of 4 at every step boundary if it is at one: R338's premise, which follows from accesses at the
end of their M-cycles (the spec's decision D2, log entry 11). -/
def Obligations.StepKeepsDividerPhase : Prop :=
  ∀ s t : State, s.phaseOk → step s = .next t → t.phaseOk

/-- A step that runs an instruction lasts exactly the M-cycles of the instruction's row (R380, with the totals the spec takes
from general knowledge, G9; log entry 22); the row's length is the number of its bytes, and a row has an alternate
count exactly when the instruction is conditional. Every step lasts a whole number of M-cycles, one to six. -/
def Obligations.InstructionLastsItsRowsMcycles : Prop :=
  (∀ (i : Instr) (s t : State) (m : Nat), i.wellFormed = true → s.willFetch → fetches (encode i) s.atFetch →
      tableMcycles i s m → step s = .next t → t.t = s.t + 4 * m) ∧
    (∀ i : Instr, (encode i).length = (instrInfo i).length ∧
      ((∃ cc, condForm cc i) ↔ (instrInfo i).mcyclesNotTaken ≠ none)) ∧
    ∀ s t : State, step s = .next t → ∃ m, 1 ≤ m ∧ m ≤ 6 ∧ t.t = s.t + 4 * m

/-! Encoding. -/

/-- Decoding an encoded well-formed instruction gives it back with every operand, and leaves the bytes after it. -/
def Obligations.DecodeInvertsEncode : Prop :=
  ∀ (i : Instr) (rest : List Byte), i.wellFormed = true → decode (encode i ++ rest) = .ok (i, rest)

/-- The other direction: bytes that decode are the encoding of the instruction they decode to, which is well formed. -/
def Obligations.EncodeInvertsDecode : Prop :=
  ∀ (bytes rest : List Byte) (i : Instr), decode bytes = .ok (i, rest) → i.wellFormed = true ∧ encode i ++ rest = bytes

/-- The opcode bytes of the regular rows by the fields x, y, z, p (R81, R84 to R92; the standard map, decision D3, log entry 12). -/
def Obligations.OpcodesFollowTheFields : Prop :=
  (∀ y z, y < 8 → z < 8 → ∀ r q n, opnd8At y = .reg r → opnd8At z = .reg q →
      encode (rowLdRegReg r q) = [BitVec.ofNat 8 (0x40 + 8 * y + z)] ∧
      encode (rowLdRegAtHl r) = [BitVec.ofNat 8 (0x46 + 8 * y)] ∧
      encode (rowLdAtHlReg q) = [BitVec.ofNat 8 (0x70 + z)] ∧
      encode (rowLdRegN8 r n) = [BitVec.ofNat 8 (0x06 + 8 * y), n] ∧
      encode (rowIncReg r) = [BitVec.ofNat 8 (0x04 + 8 * y)] ∧
      encode (rowDecReg r) = [BitVec.ofNat 8 (0x05 + 8 * y)]) ∧
    (∀ y z, y < 8 → z < 8 → ∀ q n, opnd8At z = .reg q →
      encode (rowAluReg (aluAt y) q) = [BitVec.ofNat 8 (0x80 + 8 * y + z)] ∧
      encode (rowAluAtHl (aluAt y)) = [BitVec.ofNat 8 (0x86 + 8 * y)] ∧
      encode (rowAluN8 (aluAt y) n) = [BitVec.ofNat 8 (0xC6 + 8 * y), n] ∧
      encode (rowRotReg (rotAt y) q) = [0xCB, BitVec.ofNat 8 (8 * y + z)] ∧
      encode (rowRotAtHl (rotAt y)) = [0xCB, BitVec.ofNat 8 (8 * y + 6)]) ∧
    (∀ (b : Fin 8) (z : Nat), z < 8 → ∀ q, opnd8At z = .reg q →
      encode (rowBitReg b q) = [0xCB, BitVec.ofNat 8 (0x40 + 8 * b.val + z)] ∧
      encode (rowResReg b q) = [0xCB, BitVec.ofNat 8 (0x80 + 8 * b.val + z)] ∧
      encode (rowSetReg b q) = [0xCB, BitVec.ofNat 8 (0xC0 + 8 * b.val + z)] ∧
      encode (rowBitAtHl b) = [0xCB, BitVec.ofNat 8 (0x46 + 8 * b.val)] ∧
      encode (rowResAtHl b) = [0xCB, BitVec.ofNat 8 (0x86 + 8 * b.val)] ∧
      encode (rowSetAtHl b) = [0xCB, BitVec.ofNat 8 (0xC6 + 8 * b.val)] ∧
      encode (rowRst b) = [BitVec.ofNat 8 (0xC7 + 8 * b.val)]) ∧
    (∀ p, p < 4 → ∀ (n : Word) (e : Byte),
      encode (rowLdR16N16 (reg16At p) n) = [BitVec.ofNat 8 (0x01 + 16 * p), loByte n, hiByte n] ∧
      encode (rowIncR16 (reg16At p)) = [BitVec.ofNat 8 (0x03 + 16 * p)] ∧
      encode (rowDecR16 (reg16At p)) = [BitVec.ofNat 8 (0x0B + 16 * p)] ∧
      encode (rowAddHl (reg16At p)) = [BitVec.ofNat 8 (0x09 + 16 * p)] ∧
      encode (rowPush (reg16StkAt p)) = [BitVec.ofNat 8 (0xC5 + 16 * p)] ∧
      encode (rowPop (reg16StkAt p)) = [BitVec.ofNat 8 (0xC1 + 16 * p)] ∧
      encode (rowJpCc (condAt p) n) = [BitVec.ofNat 8 (0xC2 + 8 * p), loByte n, hiByte n] ∧
      encode (rowCallCc (condAt p) n) = [BitVec.ofNat 8 (0xC4 + 8 * p), loByte n, hiByte n] ∧
      encode (rowRetCc (condAt p)) = [BitVec.ofNat 8 (0xC0 + 8 * p)] ∧
      encode (rowJrCc (condAt p) e) = [BitVec.ofNat 8 (0x20 + 8 * p), e])

/-- Words written out from the spec's encodings decode to the instructions they stand for (examples of R88 to R92 and of the
instruction rules); a byte list that ends too early is refused. The map is the spec's decision D3 (log entry 12); how the two
`decodeTableWord` clauses number the bits of a table word is the model's choice (log entry 10). -/
def Obligations.SpecWordsDecode : Prop :=
  decode [0x00] = .ok (.nop, []) ∧ decode [0x41] = .ok (.ldBC, []) ∧ decode [0x76] = .ok (.halt, []) ∧
    decode [0x36, 0x99] = .ok (.ldAtHlN8 0x99, []) ∧ decode [0x21, 0x5B, 0x3A] = .ok (.ldHlN16 0x3A5B, []) ∧
    decode [0xC3, 0x50, 0x01] = .ok (.jpN16 0x0150, []) ∧ decode [0x8B] = .ok (.adcAE, []) ∧
    decode [0xCF] = .ok (.rst08, []) ∧ decode [0xF1] = .ok (.popAf, []) ∧ decode [0x10, 0x77] = .ok (.stop 0x77, []) ∧
    decode [0xCB, 0x37] = .ok (.swapA, []) ∧ decode [0xCB, 0xCB] = .ok (.set1E, []) ∧ decode [0xDD] = .ok (.illegalDD, []) ∧
    decodeTableWord 8 0x2D = some .decL ∧ decodeTableWord 16 0xCBDE = some .set3AtHl ∧
    decode [] = .error .empty ∧ decode [0xC3, 0x50] = .error (.truncated 0xC3) ∧ decode [0xCB] = .error (.truncated 0xCB)

/-- A step in which nothing is dispatched and the core is awake, or wakes with IME = 0, runs the instruction whose bytes the
fetches give, on the state after those fetches (R290 stages 2, 4 and 5): each byte one M-cycle, PC past the instruction. That every
operand byte is fetched before the meaning runs is read from the instruction rules by inference (log entry 9). -/
def Obligations.StepRunsTheDecodedInstruction : Prop :=
  ∀ (i : Instr) (s : State), i.wellFormed = true → s.willFetch → fetches (encode i) s.atFetch →
    step s = exec i (fetched (encode i).length s.atFetch)

/-- The prefix row: it fetches one more byte and runs the CB table's entry, as R275 says of the two bytes, and completes wherever PC
and HL are addresses with a device. No other state changes between the two fetches. R275 calls the escape byte no
instruction of its own: an instruction with an `exec` of its own is the model's choice of form (log entry 29). -/
def Obligations.PrefixRunsTheCbTable : Prop :=
  (∀ (s : State) (op2 : Byte) (i : Instr), decode [0xCB, op2] = .ok (i, []) →
      busRead s.regs.pc (internal s) = some op2 →
        exec .prefixCb s = exec i (fetched 1 s) ∧ fetched 1 s = { internals 1 s with regs := { s.regs with pc := s.regs.pc + 1 } }) ∧
    ∀ s : State, mapped s.regs.pc = true → mapped s.hl = true → ∃ t, exec .prefixCb s = .next t

/-! Loads. -/

/-- LD r8,r8' and LD r8,n8 (R200, R201): at once. LD r8,[HL] (R202): one read M-cycle at the old HL. No flag. -/
def Obligations.LoadRegister : Prop :=
  ∀ (s : State) (dst : Reg8) (i : Instr) (v : Byte) (k : Nat),
    ((∃ src, i = rowLdRegReg dst src ∧ v = s.get8 src ∧ k = 0) ∨ (i = rowLdRegN8 dst v ∧ k = 0) ∨
      (i = rowLdRegAtHl dst ∧ busRead s.hl (internal s) = some v ∧ k = 1)) →
    ∃ t, exec i s = .next t ∧ s.onlyRegs k t ∧ t.get8 dst = v ∧ s.keeps8 [dst] t ∧ s.keepsF t ∧ s.keepsSpPc t

/-- LD [HL],r8 and LD [HL],n8 (R203, R204): one write M-cycle; no register, no flag. -/
def Obligations.StoreAtHl : Prop :=
  ∀ (s : State) (i : Instr) (v : Byte), mapped s.hl = true →
    ((∃ r, i = rowLdAtHlReg r ∧ v = s.get8 r) ∨ i = .ldAtHlN8 v) →
    ∃ t, exec i s = .next t ∧ busWrite s.hl v (internal s) = some t ∧ t.regs = s.regs ∧ s.storesAt 1 s.hl t

/-- LD A,[BC], LD A,[DE], LD A,[n16], LDH A,[n8], LDH A,[C] (R205, R206, R213, R215, R217). -/
def Obligations.LoadAccumulator : Prop :=
  ∀ (s : State) (i : Instr) (addr : Word) (v : Byte),
    ((i = .ldAAtBc ∧ addr = s.get16 .bc) ∨ (i = .ldAAtDe ∧ addr = s.get16 .de) ∨ i = .ldAAtN16 addr ∨
      (∃ n, i = .ldhAAtN8 n ∧ addr = 0xFF00 + n.setWidth 16) ∨ (i = .ldhAAtC ∧ addr = 0xFF00 + s.regs.c.setWidth 16)) →
    busRead addr (internal s) = some v →
    ∃ t, exec i s = .next t ∧ s.onlyRegs 1 t ∧ t.regs.a = v ∧ s.keeps8 [.a] t ∧ s.keepsF t ∧ s.keepsSpPc t

/-- LD [BC],A, LD [DE],A, LD [n16],A, LDH [n8],A, LDH [C],A (R207, R208, R214, R216, R218). -/
def Obligations.StoreAccumulator : Prop :=
  ∀ (s : State) (i : Instr) (addr : Word),
    ((i = .ldAtBcA ∧ addr = s.get16 .bc) ∨ (i = .ldAtDeA ∧ addr = s.get16 .de) ∨ i = .ldAtN16A addr ∨
      (∃ n, i = .ldhAtN8A n ∧ addr = 0xFF00 + n.setWidth 16) ∨ (i = .ldhAtCA ∧ addr = 0xFF00 + s.regs.c.setWidth 16)) →
    mapped addr = true →
    ∃ t, exec i s = .next t ∧ busWrite addr s.regs.a (internal s) = some t ∧ t.regs = s.regs ∧ s.storesAt 1 addr t

/-- LD A,[HL+], LD A,[HL-] (R209, R210) and LD [HL+],A, LD [HL-],A (R211, R212): the access is at the old HL; HL then moves by one,
modulo 2^16. -/
def Obligations.PostModifyLoadsAndStores : Prop :=
  (∀ (s : State) (i : Instr) (step : Word) (v : Byte), ((i = .ldAAtHli ∧ step = 1) ∨ (i = .ldAAtHld ∧ step = -1)) →
      busRead s.hl (internal s) = some v →
      ∃ t, exec i s = .next t ∧ s.onlyRegs 1 t ∧ t.regs.a = v ∧ t.hl = s.hl + step ∧ s.keeps8 [.a, .h, .l] t ∧ s.keepsF t ∧
        s.keepsSpPc t) ∧
    ∀ (s : State) (i : Instr) (step : Word), ((i = .ldAtHliA ∧ step = 1) ∨ (i = .ldAtHldA ∧ step = -1)) →
      mapped s.hl = true →
      ∃ w t, busWrite s.hl s.regs.a (internal s) = some w ∧ exec i s = .next t ∧ t = { w with regs := t.regs } ∧
        t.hl = s.hl + step ∧ s.keeps8 [.h, .l] t ∧ s.keepsF t ∧ s.keepsSpPc t ∧ s.storesAt 1 s.hl t

/-- LD r16,n16 (R219) at once and LD SP,HL (R221) in one internal M-cycle: the pair, and no flag. LD SP,HL and its M-cycle are the
spec's general knowledge (G1, G9; log entries 12, 22). -/
def Obligations.LoadPair : Prop :=
  ∀ (s : State) (p : Reg16) (i : Instr) (v : Word) (k : Nat),
    ((i = rowLdR16N16 p v ∧ k = 0) ∨ (i = .ldSpHl ∧ p = .sp ∧ v = s.hl ∧ k = 1)) →
    ∃ t, exec i s = .next t ∧ s.onlyRegs k t ∧ t.get16 p = v ∧ (∀ q, q ≠ p → t.get16 q = s.get16 q) ∧ t.regs.a = s.regs.a ∧
      s.keepsF t ∧ t.regs.pc = s.regs.pc

/-- LD [n16],SP (R220): the low byte at n16, one M-cycle later the high byte at n16 + 1 modulo 2^16; no register, no flag. -/
def Obligations.StoreStackPointer : Prop :=
  ∀ (s : State) (n : Word), mapped n = true → mapped (n + 1) = true →
    ∃ u t, busWrite n (loByte s.regs.sp) (internal s) = some u ∧ busWrite (n + 1) (hiByte s.regs.sp) (internal u) = some t ∧
      exec (.ldAtN16Sp n) s = .next t ∧ t.regs = s.regs ∧
      ∀ a, (writesCell n (internal s) = true → a ≠ cellOf n) →
        (writesCell (n + 1) (internal u) = true → a ≠ cellOf (n + 1)) → t.cell a = s.cell a

/-- ADD SP,e8 (R147) and LD HL,SP+e8 (R222): SP plus the signed byte; Z and N cleared, H and Cy from the unsigned byte added to SP's
low byte (R148). Results and flags are the spec's general knowledge (G8, G21, D25; log entry 19), and so are the internal M-cycles
(G9; log entry 22). -/
def Obligations.StackPointerPlusOffset : Prop :=
  ∀ (s : State) (e : Byte),
    let sum := BitVec.ofInt 16 (s.regs.sp.toNat + e.toInt)
    let half := decide (s.regs.sp.toNat % 16 + e.toNat % 16 > 15)
    let carry := decide (s.regs.sp.toNat % 256 + e.toNat > 255)
    (∃ t, exec (.addSpE8 e) s = .next t ∧ s.onlyRegs 2 t ∧ t.regs.sp = sum ∧ t.hasFlags false false half carry ∧
        s.keeps8 [] t ∧ t.regs.pc = s.regs.pc) ∧
      ∃ t, exec (.ldHlSpE8 e) s = .next t ∧ s.onlyRegs 1 t ∧ t.hl = sum ∧ t.hasFlags false false half carry ∧
        s.keeps8 [.h, .l] t ∧ s.keepsSpPc t

/-! Arithmetic and logic. -/

/-- ADD and ADC with a register, n8 or [HL] (R110 to R116): the sum on unbounded integers, ADC with the carry read before it is
written; Z from the masked result, N cleared, H and Cy the carries out of bits 3 and 7. That ADC's carry-in takes part in H and
Cy is the spec's general knowledge (G4; log entry 19). -/
def Obligations.AddToAccumulator : Prop :=
  ∀ (s : State) (op : AluOp) (i : Instr) (v : Byte) (k c : Nat), ((op = .add ∧ c = 0) ∨ (op = .adc ∧ c = s.cf.toNat)) →
    aluForm op i v k s →
    ∃ t, exec i s = .next t ∧ s.onlyRegs k t ∧ t.regs.a.toNat = (s.regs.a.toNat + v.toNat + c) % 256 ∧
      t.hasFlags (decide ((s.regs.a.toNat + v.toNat + c) % 256 = 0)) false
        (decide (s.regs.a.toNat % 16 + v.toNat % 16 + c > 15)) (decide (s.regs.a.toNat + v.toNat + c > 255)) ∧
      s.keeps8 [.a] t ∧ s.keepsSpPc t

/-- SUB and SBC with a register, n8 or [HL] (R110, R117 to R122): the difference modulo 256 with the borrows on unmasked integers.
That SBC's carry-in takes part in H and Cy is the spec's general knowledge (G4; log entry 19). -/
def Obligations.SubtractFromAccumulator : Prop :=
  ∀ (s : State) (op : AluOp) (i : Instr) (v : Byte) (k c : Nat), ((op = .sub ∧ c = 0) ∨ (op = .sbc ∧ c = s.cf.toNat)) →
    aluForm op i v k s →
    ∃ t, exec i s = .next t ∧ s.onlyRegs k t ∧ (t.regs.a.toNat : Int) = ((s.regs.a.toNat : Int) - v.toNat - c) % 256 ∧
      t.hasFlags (decide (((s.regs.a.toNat : Int) - v.toNat - c) % 256 = 0)) true
        (decide (s.regs.a.toNat % 16 < v.toNat % 16 + c)) (decide (s.regs.a.toNat < v.toNat + c)) ∧
      s.keeps8 [.a] t ∧ s.keepsSpPc t

/-- CP with a register, n8 or [HL] (R132 to R134): Z says equal, Cy says unsigned less, N set, H the borrow out of bit 3; A is not
written. -/
def Obligations.CompareWithAccumulator : Prop :=
  ∀ (s : State) (i : Instr) (v : Byte) (k : Nat), aluForm .cp i v k s →
    ∃ t, exec i s = .next t ∧ s.onlyRegs k t ∧
      t.hasFlags (decide (s.regs.a = v)) true (decide (s.regs.a.toNat % 16 < v.toNat % 16))
        (decide (s.regs.a.toNat < v.toNat)) ∧
      s.keeps8 [] t ∧ s.keepsSpPc t

/-- AND, OR and XOR with a register, n8 or [HL] (R123 to R131): Z from the result, N and Cy cleared, H set by AND alone. -/
def Obligations.LogicOnAccumulator : Prop :=
  ∀ (s : State) (op : AluOp) (i : Instr) (v res : Byte) (k : Nat),
    ((op = .and ∧ res = s.regs.a &&& v) ∨ (op = .or ∧ res = s.regs.a ||| v) ∨ (op = .xor ∧ res = s.regs.a ^^^ v)) →
    aluForm op i v k s →
    ∃ t, exec i s = .next t ∧ s.onlyRegs k t ∧ t.regs.a = res ∧
      t.hasFlags (decide (res = 0)) false (decide (op = .and)) false ∧ s.keeps8 [.a] t ∧ s.keepsSpPc t

/-- INC r8 and DEC r8 (R140, R142): modulo 256; Z from the result, N fixed, H the carry or borrow at bit 3, Cy kept. -/
def Obligations.IncDecRegister : Prop :=
  ∀ (s : State) (r : Reg8),
    (∃ t, exec (rowIncReg r) s = .next t ∧ s.onlyRegs 0 t ∧ (t.get8 r).toNat = ((s.get8 r).toNat + 1) % 256 ∧
        t.hasFlags (decide ((s.get8 r).toNat = 255)) false (decide ((s.get8 r).toNat % 16 = 15)) s.cf ∧ s.keeps8 [r] t ∧
        s.keepsSpPc t) ∧
      ∃ t, exec (rowDecReg r) s = .next t ∧ s.onlyRegs 0 t ∧ (t.get8 r).toNat = ((s.get8 r).toNat + 255) % 256 ∧
        t.hasFlags (decide ((s.get8 r).toNat = 1)) true (decide ((s.get8 r).toNat % 16 = 0)) s.cf ∧ s.keeps8 [r] t ∧
        s.keepsSpPc t

/-- INC [HL] and DEC [HL] (R141, R143): a read M-cycle, a write M-cycle, the flags from the byte read. -/
def Obligations.IncDecAtHl : Prop :=
  ∀ (s : State) (v : Byte), busRead s.hl (internal s) = some v →
    (∃ w t, busWrite s.hl (v + 1) (internals 2 s) = some w ∧ exec .incAtHl s = .next t ∧ t = { w with regs := t.regs } ∧
        t.hasFlags (decide (v.toNat = 255)) false (decide (v.toNat % 16 = 15)) s.cf ∧ s.keeps8 [] t ∧ s.keepsSpPc t ∧
        s.storesAt 2 s.hl t) ∧
      ∃ w t, busWrite s.hl (v - 1) (internals 2 s) = some w ∧ exec .decAtHl s = .next t ∧ t = { w with regs := t.regs } ∧
        t.hasFlags (decide (v.toNat = 1)) true (decide (v.toNat % 16 = 0)) s.cf ∧ s.keeps8 [] t ∧ s.keepsSpPc t ∧
        s.storesAt 2 s.hl t

/-- INC r16 and DEC r16 (R144, R145): modulo 2^16, no flag. ADD HL,r16 (R146): N cleared, H and Cy the carries out of bits 11 and
15, Z kept. One internal M-cycle each. ADD HL is the spec's general knowledge (G8, D25; log entry 19), and so are the internal
M-cycles (G9; log entry 22). -/
def Obligations.PairArithmetic : Prop :=
  ∀ (s : State) (p : Reg16),
    (∀ (i : Instr) (v : Nat), ((i = rowIncR16 p ∧ v = ((s.get16 p).toNat + 1) % 65536) ∨
        (i = rowDecR16 p ∧ v = ((s.get16 p).toNat + 65535) % 65536)) →
      ∃ t, exec i s = .next t ∧ s.onlyRegs 1 t ∧ (t.get16 p).toNat = v ∧ (∀ q, q ≠ p → t.get16 q = s.get16 q) ∧
        t.regs.a = s.regs.a ∧ s.keepsF t ∧ t.regs.pc = s.regs.pc) ∧
      ∃ t, exec (rowAddHl p) s = .next t ∧ s.onlyRegs 1 t ∧ t.hl.toNat = (s.hl.toNat + (s.get16 p).toNat) % 65536 ∧
        t.hasFlags s.zf false (decide (s.hl.toNat % 4096 + (s.get16 p).toNat % 4096 > 4095))
          (decide (s.hl.toNat + (s.get16 p).toNat > 65535)) ∧
        s.keeps8 [.h, .l] t ∧ s.keepsSpPc t

/-- The eight rotates and shifts on a register and on [HL] (R160, R165 to R180): the result and the bit shifted out of the formula
on numbers; Z from the result, N and H cleared. RLCA, RRCA, RLA, RRA (R161 to R164): as on a register, but Z is always cleared.
The definitions of the rotates and shifts, and Z of the four, are the spec's general knowledge (G5, D24; log entry 19). -/
def Obligations.RotateAndShift : Prop :=
  (∀ (s : State) (op : RotOp) (r : Reg8),
      let x := rotNat op (s.get8 r).toNat s.cf.toNat
      ∃ t, exec (rowRotReg op r) s = .next t ∧ s.onlyRegs 0 t ∧ (t.get8 r).toNat = x.1 ∧
        t.hasFlags (decide (x.1 = 0)) false false (decide (x.2 = 1)) ∧ s.keeps8 [r] t ∧ s.keepsSpPc t) ∧
    (∀ (s : State) (op : RotOp) (v : Byte), busRead s.hl (internal s) = some v →
      let x := rotNat op v.toNat s.cf.toNat
      ∃ w t, busWrite s.hl (BitVec.ofNat 8 x.1) (internals 2 s) = some w ∧ exec (rowRotAtHl op) s = .next t ∧
        t = { w with regs := t.regs } ∧ t.hasFlags (decide (x.1 = 0)) false false (decide (x.2 = 1)) ∧ s.keeps8 [] t ∧
        s.keepsSpPc t ∧ s.storesAt 2 s.hl t) ∧
    ∀ (s : State) (i : Instr) (op : RotOp),
      ((i = .rlca ∧ op = .rlc) ∨ (i = .rrca ∧ op = .rrc) ∨ (i = .rla ∧ op = .rl) ∨ (i = .rra ∧ op = .rr)) →
      let x := rotNat op s.regs.a.toNat s.cf.toNat
      ∃ t, exec i s = .next t ∧ s.onlyRegs 0 t ∧ t.regs.a.toNat = x.1 ∧ t.hasFlags false false false (decide (x.2 = 1)) ∧
        s.keeps8 [.a] t ∧ s.keepsSpPc t

/-- BIT b of a register or of [HL] (R190, R191): Z says that the bit is 0, N cleared, H set, Cy kept; nothing else, and no write. -/
def Obligations.BitTest : Prop :=
  ∀ (s : State) (b : Fin 8) (i : Instr) (v : Byte) (k : Nat),
    ((∃ r, i = rowBitReg b r ∧ v = s.get8 r ∧ k = 0) ∨ (i = rowBitAtHl b ∧ busRead s.hl (internal s) = some v ∧ k = 1)) →
    ∃ t, exec i s = .next t ∧ s.onlyRegs k t ∧ t.hasFlags (decide (v.toNat / 2 ^ b.val % 2 = 0)) false true s.cf ∧
      s.keeps8 [] t ∧ s.keepsSpPc t

/-- RES b and SET b: of a register (R192, R194), that bit, the other seven kept; of [HL] (R193, R195), a read M-cycle, then a write
M-cycle of the byte with that bit changed, whatever the bit was. No flag, no other register. -/
def Obligations.ResAndSetBits : Prop :=
  (∀ (s : State) (b : Fin 8) (r : Reg8) (i : Instr) (on : Bool), ((i = rowResReg b r ∧ on = false) ∨ (i = rowSetReg b r ∧ on = true)) →
      ∃ t, exec i s = .next t ∧ s.onlyRegs 0 t ∧
        (∀ j : Fin 8, (t.get8 r).getLsbD j.val = if j = b then on else (s.get8 r).getLsbD j.val) ∧
        s.keeps8 [r] t ∧ s.keepsF t ∧ s.keepsSpPc t) ∧
    ∀ (s : State) (b : Fin 8) (v : Byte) (i : Instr) (on : Bool), ((i = rowResAtHl b ∧ on = false) ∨ (i = rowSetAtHl b ∧ on = true)) →
      busRead s.hl (internal s) = some v →
      ∃ w t, (∀ j : Fin 8, w.getLsbD j.val = if j = b then on else v.getLsbD j.val) ∧
        busWrite s.hl w (internals 2 s) = some t ∧ exec i s = .next t ∧ t.regs = s.regs ∧ s.storesAt 2 s.hl t

/-- DAA (R265): the adjustment from A before any change and the flags N, H, Cy; Z from the result, N kept, H cleared, and a set
carry is never cleared. The algorithm is the spec's general knowledge (G6, D23; log entry 20). -/
def Obligations.DecimalAdjust : Prop :=
  ∀ s : State,
    let low := s.hf = true ∨ (s.nf = false ∧ s.regs.a.toNat % 16 > 9)
    let high := s.cf = true ∨ (s.nf = false ∧ s.regs.a.toNat > 0x99)
    ∃ t adj, exec .daa s = .next t ∧ s.onlyRegs 0 t ∧
      ((low ∧ high ∧ adj = 0x66) ∨ (low ∧ ¬ high ∧ adj = 0x06) ∨ (¬ low ∧ high ∧ adj = 0x60) ∨ (¬ low ∧ ¬ high ∧ adj = 0)) ∧
      t.regs.a.toNat = (if s.nf then s.regs.a.toNat + 256 - adj else s.regs.a.toNat + adj) % 256 ∧
      t.zf = decide (t.regs.a = 0) ∧ t.nf = s.nf ∧ t.hf = false ∧ (t.cf = true ↔ high) ∧ t.flagsOk ∧
      s.keeps8 [.a] t ∧ s.keepsSpPc t

/-- What R265 says DAA means: after ADD or ADC of a packed-BCD byte to a packed-BCD A it makes A the packed-BCD sum and Cy the
decimal carry. The algorithm is from general knowledge (G6, log entry 20). -/
def Obligations.DecimalAdjustAfterAddition : Prop :=
  ∀ (s : State) (op : AluOp) (x y c : Nat), x < 100 → y < 100 → s.regs.a.toNat = x / 10 * 16 + x % 10 →
    ((op = .add ∧ c = 0) ∨ (op = .adc ∧ c = s.cf.toNat)) →
    ∃ t u, exec (rowAluN8 op (BitVec.ofNat 8 (y / 10 * 16 + y % 10))) s = .next t ∧ exec .daa t = .next u ∧
      u.regs.a.toNat = (x + y + c) / 10 % 10 * 16 + (x + y + c) % 10 ∧ u.cf = decide (x + y + c ≥ 100)

/-- CPL (R266): A complemented, N and H set, Z and Cy kept. SCF, CCF (R267, R268): Cy set or inverted, N and H cleared, Z kept. What
these three keep is the spec's general knowledge (G7, D23; log entry 19). -/
def Obligations.ComplementAndCarryFlags : Prop :=
  ∀ s : State,
    (∃ t, exec .cpl s = .next t ∧ s.onlyRegs 0 t ∧ t.regs.a.toNat = 255 - s.regs.a.toNat ∧ t.hasFlags s.zf true true s.cf ∧
        s.keeps8 [.a] t ∧ s.keepsSpPc t) ∧
      (∃ t, exec .scf s = .next t ∧ s.onlyRegs 0 t ∧ t.hasFlags s.zf false false true ∧ s.keeps8 [] t ∧ s.keepsSpPc t) ∧
      ∃ t, exec .ccf s = .next t ∧ s.onlyRegs 0 t ∧ t.hasFlags s.zf false false (!s.cf) ∧ s.keeps8 [] t ∧ s.keepsSpPc t

/-! Control transfer and the stack. -/

/-- JP n16, JP HL, JR e8 and their conditional forms (R240 to R245): PC at the target, relative to the next instruction for JR;
one internal M-cycle when taken (none for JP HL), none when not taken; no register but PC, no flag, no memory access. JP HL reading
no memory and the condition codes are the spec's general knowledge (C4, D26, D28, G16, G17; log entry 27), and so are the internal
M-cycles (G9; log entry 22). -/
def Obligations.Jumps : Prop :=
  (∀ (s : State) (i : Instr) (target : Word) (k : Nat),
      ((i = .jpN16 target ∧ k = 1) ∨ (i = .jpHl ∧ target = s.hl ∧ k = 0) ∨
        (∃ e, i = .jrE8 e ∧ target = BitVec.ofInt 16 (s.regs.pc.toNat + e.toInt) ∧ k = 1)) →
      ∃ t, exec i s = .next t ∧ s.onlyRegs k t ∧ t.regs = { s.regs with pc := target }) ∧
    ∀ (s : State) (cc : Cond) (i : Instr) (target : Word),
      (i = rowJpCc cc target ∨ ∃ e, i = rowJrCc cc e ∧ target = BitVec.ofInt 16 (s.regs.pc.toNat + e.toInt)) →
      (condHolds cc s → ∃ t, exec i s = .next t ∧ s.onlyRegs 1 t ∧ t.regs = { s.regs with pc := target }) ∧
        (¬ condHolds cc s → exec i s = .next s)

/-- CALL n16, CALL cc,n16, RST vec (R246, R247, R251): one internal M-cycle, the push of PC (the address after the instruction),
then PC at the target; a call not taken does nothing. No other register, no flag. The place of the internal M-cycle before the push
(D4, G9; log entry 22) and the condition codes (D28, G17; log entry 27) are the spec's general knowledge. -/
def Obligations.CallsAndRestarts : Prop :=
  (∀ (s : State) (i : Instr) (target : Word),
      (i = .callN16 target ∨ (∃ cc, condHolds cc s ∧ i = rowCallCc cc target) ∨
        ∃ y : Fin 8, i = rowRst y ∧ target = BitVec.ofNat 16 (8 * y.val)) →
      mapped (s.regs.sp - 1) = true → mapped (s.regs.sp - 2) = true →
      ∃ w t, s.pushed 1 s.regs.pc w ∧ exec i s = .next t ∧ t = { w with regs := t.regs } ∧ (∀ a, t.cell a = w.cell a) ∧
        t.regs = { s.regs with sp := s.regs.sp - 2, pc := target }) ∧
    ∀ (s : State) (cc : Cond) (target : Word), ¬ condHolds cc s → exec (rowCallCc cc target) s = .next s

/-- RET, RET cc, RETI (R248 to R250): PC is the word popped, SP goes up by 2; RET cc spends an internal M-cycle first, and nothing
else when not taken; RETI sets IME at once and leaves a scheduled enable, IF and IE. No other register, no flag, no write. That RETI
leaves a scheduled enable is the spec's decision D30 (log entry 21); the M-cycles (D4, G9; log entry 22) and the condition codes
(D28, G17; log entry 27) are its general knowledge. -/
def Obligations.Returns : Prop :=
  (∀ (s : State) (v : Word), s.pops 0 v →
      (∃ t, exec .ret s = .next t ∧ s.onlyRegs 3 t ∧ t.regs = { s.regs with sp := s.regs.sp + 2, pc := v }) ∧
        ∃ t, exec .reti s = .next t ∧ t = { internals 3 s with regs := t.regs, ime := true } ∧ (∀ a, t.cell a = s.cell a) ∧
          t.regs = { s.regs with sp := s.regs.sp + 2, pc := v }) ∧
    (∀ (s : State) (cc : Cond) (v : Word), condHolds cc s → s.pops 1 v →
      ∃ t, exec (rowRetCc cc) s = .next t ∧ s.onlyRegs 4 t ∧ t.regs = { s.regs with sp := s.regs.sp + 2, pc := v }) ∧
    ∀ (s : State) (cc : Cond), ¬ condHolds cc s →
      ∃ t, exec (rowRetCc cc) s = .next t ∧ s.onlyRegs 1 t ∧ t.regs = s.regs

/-- PUSH r16stk (R260): one internal M-cycle, then the high byte at SP - 1 and the low byte at SP - 2; SP goes down by 2; no other
register, no flag. The place of the internal M-cycle before the writes is the spec's general knowledge (D4, G9; log entry 22). -/
def Obligations.PushPair : Prop :=
  ∀ (s : State) (p : Reg16Stk), mapped (s.regs.sp - 1) = true → mapped (s.regs.sp - 2) = true →
    ∃ w t, s.pushed 1 (s.getStk p) w ∧ exec (rowPush p) s = .next t ∧ t = { w with regs := t.regs } ∧
      (∀ a, t.cell a = w.cell a) ∧ t.regs = { s.regs with sp := s.regs.sp - 2 }

/-- POP r16stk (R261, R262): the pair is the word popped, SP goes up by 2, the other pairs are kept; POP AF writes A and the four
flags, the low nibble of F stays 0; no other form writes a flag. -/
def Obligations.PopPair : Prop :=
  ∀ (s : State) (p : Reg16Stk) (v : Word), s.pops 0 v →
    ∃ t, exec (rowPop p) s = .next t ∧ s.onlyRegs 2 t ∧ (∀ q, q ≠ p → t.getStk q = s.getStk q) ∧
      (p ≠ .af → t.getStk p = v) ∧ (p = .af → t.regs.a = hiByte v ∧ t.regs.f = loByte v &&& 0xF0) ∧
      t.regs.sp = s.regs.sp + 2 ∧ t.regs.pc = s.regs.pc

/-- PUSH then POP (the example of R260): the second pair is the first one's value and SP is as before, where the two stack bytes
are bytes of a store that nothing gates, the baseline's cartridge RAM among them (log entry 4). -/
def Obligations.PushThenPopRestores : Prop :=
  ∀ (s : State) (p q : Reg16Stk), q ≠ .af → s.plainStore (s.regs.sp - 1) = true → s.plainStore (s.regs.sp - 2) = true →
    ∃ t u, exec (rowPush p) s = .next t ∧ exec (rowPop q) t = .next u ∧ u.getStk q = s.getStk p ∧ u.regs.sp = s.regs.sp ∧
      u.regs.pc = s.regs.pc

/-! The system instructions, faults and interrupts. -/

/-- NOP, DI, EI, HALT, STOP (R270 to R274): nothing; IME and a scheduled enable cleared; an enable scheduled, IME itself kept; the
core halted, whatever STOP's byte is. Nothing else changes. STOP as the halted state and DI clearing the scheduled enable are the
spec's decisions D13 and D30 (log entry 21). -/
def Obligations.SystemInstructions : Prop :=
  ∀ (s : State) (n : Byte),
    exec .nop s = .next s ∧ exec .di s = .next { s with ime := false, imePending := false } ∧
      exec .ei s = .next { s with imePending := true } ∧ exec .halt s = .next { s with halted := true } ∧
      exec (.stop n) s = .next { s with halted := true }

/-- The eleven illegal rows (R276): each is one byte, and running it in a state with no fault latched stops the machine with
`IllegalOpcode` of the address before PC and that byte, and no other change than the latch. That the fault comes after the fetch and
records PC - 1 is the spec's decision D14 (log entry 23). -/
def Obligations.IllegalRowsStop : Prop :=
  illegalRows.map Prod.snd = [0xD3, 0xDB, 0xDD, 0xE3, 0xE4, 0xEB, 0xEC, 0xED, 0xF4, 0xFC, 0xFD] ∧
    ∀ x ∈ illegalRows, encode x.1 = [x.2] ∧ ∀ s : State, s.running →
      exec x.1 s = .fault (.illegalOpcode (s.regs.pc - 1) x.2
        { s with fault := some (.illegalOpcode (s.regs.pc - 1) x.2) })

/-- R301: a step raises `IllegalOpcode` exactly when the byte it fetches as an opcode is one of the eleven, and records the address
the byte was fetched from and the byte; no other instruction, no operand and no CB entry raises it. The state it is raised in, the
fetch M-cycle completed and PC past the byte, is the spec's decision D14 (R276; log entry 23). -/
def Obligations.IllegalOpcodeOnlyFromIllegalBytes : Prop :=
  (∀ (s : State) (op : Byte), s.willFetch → busRead s.regs.pc (internal s.atFetch) = some op →
      op ∈ illegalRows.map Prod.snd →
      step s = .fault (.illegalOpcode s.regs.pc op
        { fetched 1 s.atFetch with fault := some (.illegalOpcode s.regs.pc op) })) ∧
    ∀ (s fr : State) (addr : Word) (op : Byte), s.running → step s = .fault (.illegalOpcode addr op fr) →
      s.willFetch ∧ addr = s.regs.pc ∧ busRead s.regs.pc (internal s.atFetch) = some op ∧ op ∈ illegalRows.map Prod.snd ∧
        fr = { fetched 1 s.atFetch with fault := some (.illegalOpcode addr op) }

/-- R300: `raise` latches the fault if none is latched and keeps the one that is, and ends the step there; once a fault is latched
a step changes nothing, not even time; no step clears the latch. That a step of a latched state answers the same fault, carrying the
unchanged state, is the model's form for a core that takes no step (log entry 28). -/
def Obligations.FaultLatchFreezes : Prop :=
  (∀ (c : FaultCause) (s : State), s.fault = none → raise c s = stopped c { s with fault := some c }) ∧
    (∀ (c d : FaultCause) (s : State), s.fault = some d → raise c s = stopped d s) ∧
    (∀ (c : FaultCause) (s : State), (∃ f, stopped c s = .fault f) ∧ ∀ t, stopped c s ≠ .next t) ∧
    (∀ (c : FaultCause) (s : State), s.fault = some c → step s = stopped c s) ∧
    ∀ s t : State, step s = .next t → s.fault = none ∧ t.fault = none

/-- An access to an I/O address with no device (R53, R302): exactly 0xFF03, 0xFF08 to 0xFF0E, 0xFF10 to 0xFF3F and 0xFF4C to 0xFF7F
(the spec's decision D15, log entry 17); the bus answers everywhere else; a read or a write there stops the machine after
the four ticks, with nothing written. A step whose fetch of the opcode or of any later byte of an instruction, the byte after 0xCB
and STOP's second byte included, has no device ends there: the state is the one after the earlier fetches and this one's M-cycle,
with PC at the address that has no device (R294, R303). -/
def Obligations.UnmappedAccessFaults : Prop :=
  (∀ addr : Word, mapped addr = false ↔
      addr.toNat = 0xFF03 ∨ (0xFF08 ≤ addr.toNat ∧ addr.toNat ≤ 0xFF0E) ∨ (0xFF10 ≤ addr.toNat ∧ addr.toNat ≤ 0xFF3F) ∨
        (0xFF4C ≤ addr.toNat ∧ addr.toNat ≤ 0xFF7F)) ∧
    (∀ (addr : Word) (v : Byte) (s : State), (busRead addr s = none ↔ mapped addr = false) ∧
      (busWrite addr v s = none ↔ mapped addr = false)) ∧
    (∀ (addr : Word) (v : Byte) (s : State) (k : Byte → State → StepResult) (k' : State → StepResult),
      mapped addr = false → s.running →
      let stop := Host.Outcome.fault (Fault.unmappedAddress addr { internal s with fault := some (.unmappedAddress addr) })
      memRead addr s k = stop ∧ memWrite addr v s k' = stop) ∧
    ∀ (i : Instr) (s : State) (got rest : List Byte), i.wellFormed = true → encode i = got ++ rest → rest ≠ [] →
      s.willFetch → fetches got s.atFetch →
      let addr := s.regs.pc + BitVec.ofNat 16 got.length
      mapped addr = false →
      step s = .fault (.unmappedAddress addr { internals (got.length + 1) s.atFetch with
        regs := { s.regs with pc := addr }, fault := some (.unmappedAddress addr) })

/-- Where an access of an instruction or of a dispatch has no device, the instruction ends there (R302, R303): the fault carries the
state in which everything before the access has happened and nothing after it. For the forms that access memory first, nothing but
the M-cycle; for a push, SP moved, the first byte written if it is the second that faults, PC kept; for a pop, SP moved after the
first read, the destination kept. Which addresses have no device is the spec's decision D15 (log entry 17); the internal M-cycle
before a push or the pop of a RET taken is its general knowledge (D4, G9; log entry 22); that a dispatch clears IME, the
scheduled enable and the request before its first M-cycle, and its two internal M-cycles, are D11 (log entry 16); which forms are
taken, the condition codes, is D28, G17 (log entry 27). -/
def Obligations.FaultingAccessEndsTheInstruction : Prop :=
  (∀ (i : Instr) (s : State) (addr : Word), s.running → accessesFirst i s addr → mapped addr = false →
      exec i s = unmappedAt addr (internal s)) ∧
    (∀ (s u : State) (n : Word), s.running → busWrite n (loByte s.regs.sp) (internal s) = some u → mapped (n + 1) = false →
      exec (.ldAtN16Sp n) s = unmappedAt (n + 1) (internal u)) ∧
    (∀ (i : Instr) (s : State) (v : Word), s.running → pushForm i v s →
      (mapped (s.regs.sp - 1) = false →
        exec i s = unmappedAt (s.regs.sp - 1) { internals 2 s with regs := { s.regs with sp := s.regs.sp - 1 } }) ∧
      ∀ u, busWrite (s.regs.sp - 1) (hiByte v) (internals 2 s) = some u → mapped (s.regs.sp - 2) = false →
        exec i s = unmappedAt (s.regs.sp - 2) { internal u with regs := { s.regs with sp := s.regs.sp - 2 } }) ∧
    (∀ (i : Instr) (s : State) (k : Nat), s.running → popForm i k s →
      (mapped s.regs.sp = false → exec i s = unmappedAt s.regs.sp (internals (k + 1) s)) ∧
      (mapped s.regs.sp = true → mapped (s.regs.sp + 1) = false →
        exec i s = unmappedAt (s.regs.sp + 1) { internals (k + 2) s with regs := { s.regs with sp := s.regs.sp + 1 } })) ∧
    ∀ (s : State) (k : IntKind), s.running → s.ime = true → priority s.pending = some k →
      let d := { s with halted := false, ime := false, imePending := false, iflag := s.iflag &&& ~~~(1#5 <<< k.num) }
      (mapped (s.regs.sp - 1) = false →
        step s = unmappedAt (s.regs.sp - 1) { internals 3 d with regs := { s.regs with sp := s.regs.sp - 1 } }) ∧
      ∀ u, busWrite (s.regs.sp - 1) (hiByte s.regs.pc) (internals 3 d) = some u → mapped (s.regs.sp - 2) = false →
        step s = unmappedAt (s.regs.sp - 2) { internal u with regs := { s.regs with sp := s.regs.sp - 2 } }

/-- R313: pending says that IF AND IE is not 0; priority is the lowest-numbered set bit of IF AND IE, or none; neither looks at
anything but IF and IE. -/
def Obligations.PendingAndPriority : Prop :=
  (∀ s : State, s.pending ≠ 0 ↔ ∃ k : IntKind, s.iflag.getLsbD k.num = true ∧ s.ie.getLsbD k.num = true) ∧
    (∀ (s : State) (k : IntKind), priority s.pending = some k ↔
      (s.iflag &&& s.ie).getLsbD k.num = true ∧ ∀ j < k.num, (s.iflag &&& s.ie).getLsbD j = false) ∧
    (∀ s : State, priority s.pending = none ↔ s.pending = 0) ∧
    ∀ s t : State, s.iflag = t.iflag → s.ie = t.ie → s.pending = t.pending ∧ priority s.pending = priority t.pending

/-- Taking an interrupt (R290 stage 1, R317, R320, R321): with IME set and requests pending and enabled, the step dispatches the
lowest-numbered kind: IME, a scheduled enable and that request are cleared before the first M-cycle (decision D11, log entry 16),
the core is awake, PC is pushed after two internal M-cycles, PC is the vector 0x40 + 8k (D10, log entry 15), and an internal
M-cycle ends it. No other register changes. -/
def Obligations.InterruptDispatch : Prop :=
  ∀ (s : State) (k : IntKind), s.running → s.ime = true → s.pending.getLsbD k.num = true →
    (∀ j < k.num, s.pending.getLsbD j = false) → mapped (s.regs.sp - 1) = true → mapped (s.regs.sp - 2) = true →
    let u := { s with halted := false, ime := false, imePending := false, iflag := s.iflag &&& ~~~(1#5 <<< k.num) }
    ∃ w t, step s = .next t ∧ u.pushed 2 s.regs.pc w ∧ t = { internal w with regs := t.regs } ∧ (∀ a, t.cell a = w.cell a) ∧
      t.regs = { s.regs with sp := s.regs.sp - 2, pc := 0x0040 + BitVec.ofNat 16 (8 * k.num) } ∧
      t.ime = false ∧ t.imePending = false ∧ t.halted = false

/-- The delay of EI (R272, R370): while IME is 0 and an enable is scheduled, the step runs the next instruction whatever is pending,
with IME set for the step after it; and every dispatch leaves no enable scheduled, which is the spec's decisions D11 and D30 (log
entries 16, 21). -/
def Obligations.EnableTakesEffectAfterOneInstruction : Prop :=
  (∀ (i : Instr) (s : State), s.running → s.ime = false → s.imePending = true → (s.pending = 0 → s.halted = false) →
      i.wellFormed = true → fetches (encode i) s.atFetch →
      step s = exec i (fetched (encode i).length { s with halted := false, ime := true, imePending := false })) ∧
    ∀ s t : State, s.running → s.ime = true → s.pending ≠ 0 → step s = .next t → t.ime = false ∧ t.imePending = false

/-- The halted state (R273, R290 stage 3, R316, R341): with nothing pending the step is one internal M-cycle after a scheduled enable
is applied, and the core stays halted; with a request pending and enabled it leaves that state, whatever IME is. That waking costs
no cycle, so that the step is that of the awake core, is the spec's decision D31 (log entry 21). -/
def Obligations.HaltedIdlesUntilPending : Prop :=
  (∀ s : State, s.running → s.halted = true → s.pending = 0 →
      ∃ t, step s = .next t ∧ t = internal { s with ime := s.ime || s.imePending, imePending := false } ∧ t.halted = true ∧
        t.regs = s.regs ∧ (∀ a, t.cell a = s.cell a) ∧ t.t = s.t + 4) ∧
    (∀ s : State, s.running → s.pending ≠ 0 → s.ime = false → step s = step { s with halted := false }) ∧
    ∀ s : State, s.running → s.pending ≠ 0 → s.ime = true → step s = step { s with halted := false }

/-! The bus, the pairs, time and the timer. -/

/-- R12: the pairs are views: reading one gives its two halves, writing one writes both and nothing else; writing AF forces the low
nibble of F to 0. -/
def Obligations.PairsAreViews : Prop :=
  ∀ (s : State) (v : Word),
    (s.getStk .af).toNat = s.regs.a.toNat * 256 + s.regs.f.toNat ∧ (s.get16 .bc).toNat = s.regs.b.toNat * 256 + s.regs.c.toNat ∧
      (s.get16 .de).toNat = s.regs.d.toNat * 256 + s.regs.e.toNat ∧ (s.get16 .hl).toNat = s.regs.h.toNat * 256 + s.regs.l.toNat ∧
      s.getStk .bc = s.get16 .bc ∧ s.getStk .de = s.get16 .de ∧ s.getStk .hl = s.get16 .hl ∧
      s.set16 .bc v = (s.set8 .b (BitVec.ofNat 8 (v.toNat / 256))).set8 .c (BitVec.ofNat 8 (v.toNat % 256)) ∧
      s.set16 .de v = (s.set8 .d (BitVec.ofNat 8 (v.toNat / 256))).set8 .e (BitVec.ofNat 8 (v.toNat % 256)) ∧
      s.set16 .hl v = (s.set8 .h (BitVec.ofNat 8 (v.toNat / 256))).set8 .l (BitVec.ofNat 8 (v.toNat % 256)) ∧
      s.setStk .bc v = s.set16 .bc v ∧ s.setStk .de v = s.set16 .de v ∧ s.setStk .hl v = s.set16 .hl v ∧
      s.setStk .af v = { s with regs := { s.regs with
        a := BitVec.ofNat 8 (v.toNat / 256), f := BitVec.ofNat 8 (v.toNat % 256) &&& 0xF0 } }

/-- R46, R49, R55: WRAM is a plain store that nothing gates; an access in 0xE000..0xFDFF is the same access 0x2000 lower; the last
0x200 bytes of WRAM have no mirror address; the unusable region reads 0xFF and drops writes; HRAM is a plain store. -/
def Obligations.WramEchoUnusableHram : Prop :=
  (∀ (addr : Word) (v : Byte) (s : State),
      (0xC000 ≤ addr.toNat ∧ addr.toNat < 0xE000) ∨ (0xFF80 ≤ addr.toNat ∧ addr.toNat < 0xFFFF) →
        busRead addr s = some (s.cell addr.toNat) ∧ busWrite addr v s = some (s.setCell addr.toNat v)) ∧
    (∀ (addr : Word) (v : Byte) (s : State), 0xE000 ≤ addr.toNat → addr.toNat < 0xFE00 →
      busRead addr s = busRead (addr - 0x2000) s ∧ busWrite addr v s = busWrite (addr - 0x2000) v s) ∧
    (∀ (addr other : Word) (v : Byte) (s t : State), 0xDE00 ≤ addr.toNat → addr.toNat < 0xE000 → other ≠ addr →
      busWrite other v s = some t → busRead addr t = busRead addr s) ∧
    ∀ (addr : Word) (v : Byte) (s : State), 0xFEA0 ≤ addr.toNat → addr.toNat < 0xFF00 →
      busRead addr s = some 0xFF ∧ busWrite addr v s = some s

/-- R47: OAM reads 0xFF and drops writes exactly while the PPU mode is OAM-scan or Drawing, and is a plain store in any other. -/
def Obligations.OamGatedByPpuMode : Prop :=
  ∀ (addr : Word) (v : Byte) (s : State), 0xFE00 ≤ addr.toNat → addr.toNat < 0xFEA0 →
    ((s.ppuMode = .oamScan ∨ s.ppuMode = .drawing) → busRead addr s = some 0xFF ∧ busWrite addr v s = some s) ∧
      (¬ (s.ppuMode = .oamScan ∨ s.ppuMode = .drawing) →
        busRead addr s = some (s.cell addr.toNat) ∧ busWrite addr v s = some (s.setCell addr.toNat v))

/-- R52, R56, with R313's point that the stored bits are five: IF at 0xFF0F and IE at 0xFFFF read with the unused bits set; a write
replaces the five stored bits and does nothing else. That IE too stores five bits and reads its upper bits as 1 is the spec's decision
D27 (R22; log entry 25). -/
def Obligations.InterruptRegistersOnTheBus : Prop :=
  ∀ (v : Byte) (s : State),
    busRead 0xFF0F s = some (0xE0 ||| s.iflag.setWidth 8) ∧ busWrite 0xFF0F v s = some { s with iflag := v.setWidth 5 } ∧
      busRead 0xFFFF s = some (0xE0 ||| s.ie.setWidth 8) ∧ busWrite 0xFFFF v s = some { s with ie := v.setWidth 5 }

/-- The timer's registers on the bus (R24 to R27, R51, R333 to R337; addresses, the bits 7 to 3 of TAC and the gating of the two
glitches are the spec's decisions D6, D8, D9; log entries 13, 14). A DIV write clears the counter and increments TIMA if the
signal was 1; a TAC write increments it if the signal goes from 1 to 0; an increment that wraps arms a reload of 4
T-cycles; a TIMA write cancels a pending reload; a TMA write sets TMA. The signal is the enable bit and the watched bit. -/
def Obligations.TimerRegistersOnTheBus : Prop :=
  ∀ (v : Byte) (s : State),
    let bitOf := fun sel : BitVec 2 => [9, 3, 5, 7].getD sel.toNat 0
    let signal := fun tac : BitVec 3 => tac.getLsbD 2 && s.timer.divCounter.getLsbD (bitOf (tac.setWidth 2))
    let counted := fun tm : Timer => if tm.tima = 0xFF then { tm with tima := 0, overflowPending := true, reloadDelay := 4 }
      else { tm with tima := tm.tima + 1 }
    busRead 0xFF04 s = some (hiByte s.timer.divCounter) ∧ busRead 0xFF05 s = some s.timer.tima ∧
      busRead 0xFF06 s = some s.timer.tma ∧ busRead 0xFF07 s = some (0xF8 ||| s.timer.tac.setWidth 8) ∧
      busWrite 0xFF04 v s = some { s with timer :=
        (if signal s.timer.tac then counted { s.timer with divCounter := 0 } else { s.timer with divCounter := 0 }) } ∧
      busWrite 0xFF05 v s = some { s with timer := { s.timer with
        tima := v, overflowPending := false, reloadDelay := if s.timer.overflowPending then 0 else s.timer.reloadDelay } } ∧
      busWrite 0xFF06 v s = some { s with timer := { s.timer with tma := v } } ∧
      busWrite 0xFF07 v s = some { s with timer :=
        (if signal s.timer.tac && !signal (v.setWidth 3) then counted { s.timer with tac := v.setWidth 3 }
          else { s.timer with tac := v.setWidth 3 }) }

/-- The reload window (R372). A wrap of TIMA, by the counter or by a write to DIV or TAC (R332 to R335, R373), arms the timer. For the
four T-cycles after the wrap TIMA reads 0x00 and the Timer bit of IF is not yet set by it; on the fourth T-cycle after the wrap
TIMA is TMA and the bit is set. Within the window a TIMA write cancels the reload and its request, and a TMA write changes
what is loaded. That a DIV or TAC write counts at all, and when, is the spec's decision D9 (log entry 14); that the writes are
ordinary throughout is D29 (log entry 26). -/
def Obligations.TimaReloadWindow : Prop :=
  (∀ (s u : State) (v : Byte), s.timer.overflowPending = false →
      (u = tick s ∨ busWrite 0xFF04 v s = some u ∨ busWrite 0xFF07 v s = some u) →
      (u.timer.overflowPending = true ↔ s.timer.tima = 0xFF ∧ u.timer.tima ≠ 0xFF) ∧
        (u.timer.overflowPending = true → u.timer.armed)) ∧
    ∀ s : State, s.timer.armed →
      (∀ n, n < 4 → busRead 0xFF05 (ticks n s) = some 0x00 ∧ (ticks n s).timer.overflowPending = true ∧
        (ticks n s).iflag.getLsbD 2 = s.iflag.getLsbD 2) ∧
      (ticks 4 s).timer.tima = s.timer.tma ∧ (ticks 4 s).iflag.getLsbD 2 = true ∧ (ticks 4 s).timer.overflowPending = false ∧
      ∀ (n : Nat) (v : Byte) (t : State), n < 4 →
        (busWrite 0xFF05 v (ticks n s) = some t →
          ∀ m, m ≤ 4 - n → (ticks m t).timer.tima = v ∧ (ticks m t).iflag.getLsbD 2 = s.iflag.getLsbD 2) ∧
        (busWrite 0xFF06 v (ticks n s) = some t →
          (ticks (4 - n) t).timer.tima = v ∧ (ticks (4 - n) t).iflag.getLsbD 2 = true)

/-- The rate of TIMA (R331; the select values are decision D7, log entry 14): while the timer is enabled and nothing wraps or is
pending, TIMA counts exactly once in every 1024, 16, 64 or 256 T-cycles, by the select bits. -/
def Obligations.TimaCountsOncePerPeriod : Prop :=
  ∀ s : State, s.timer.tac.getLsbD 2 = true → s.timer.overflowPending = false → s.timer.tima ≠ 0xFF →
    ∀ period, ((s.timer.tac.setWidth 2 = 0b00#2 ∧ period = 1024) ∨ (s.timer.tac.setWidth 2 = 0b01#2 ∧ period = 16) ∨
        (s.timer.tac.setWidth 2 = 0b10#2 ∧ period = 64) ∨ (s.timer.tac.setWidth 2 = 0b11#2 ∧ period = 256)) →
      (ticks period s).timer.tima = s.timer.tima + 1

/-- What an M-cycle without an access can change (R291, R293, R15): the timer, IF and time. Time counts 4, the divider counts 4
modulo 2^16, IF only gains bits; every register, the rest of the control state, memory, the inputs and the outputs stay. In each
of its four T-cycles IF gains exactly the bit of every kind that the outside requests at that T-cycle (R312) and, where a
pending reload ends, the Timer bit (R332), which the outside never requests. That the outside requests are a list in State
keyed by T-cycle is the model's form (log entry 7); that they come after the timer is the spec's decision D18 (log entry 30). The
delay with which a pending reload ends is 1; that a pending reload with the delay 0, which R28 and R362 exclude, ends in the next
T-cycle too is the model's choice (log entry 26). -/
def Obligations.McycleChangesTimerRequestsAndTimeOnly : Prop :=
  (∀ s : State, internal s = { s with timer := (internal s).timer, iflag := (internal s).iflag, t := s.t + 4 } ∧
    (internal s).timer.divCounter = s.timer.divCounter + 4 ∧ (internal s).timer.tma = s.timer.tma ∧
    (internal s).timer.tac = s.timer.tac ∧ s.iflag &&& (internal s).iflag = s.iflag ∧
    internal s = ticks 4 s ∧ ∀ a, (internal s).cell a = s.cell a) ∧
    (∀ (s : State) (k : IntKind), (tick s).iflag.getLsbD k.num = true ↔
      s.iflag.getLsbD k.num = true ∨ (k = .timer ∧ s.timer.overflowPending = true ∧ s.timer.reloadDelay ≤ 1) ∨
        ∃ e : ExtKind, e.kind = k ∧ (s.t, e) ∈ s.inputs.extIrq) ∧
    ∀ e : ExtKind, e.kind.num ≠ 2 ∧ (e = .vblank ∧ e.kind.num = 0 ∨ e = .lcdStat ∧ e.kind.num = 1 ∨
      e = .serial ∧ e.kind.num = 3 ∨ e = .joypad ∧ e.kind.num = 4)

/-- A bus write changes no register and no time (R15, R40), reaches at most one cell, which then holds the value, and leaves every
other byte of memory; VRAM is such a cell exactly while the PPU mode is not Drawing, and blocked it reads 0xFF (the spec's
decision D16, log entry 18); cartridge RAM is one exactly in the baseline cartridge, where a read gives its cell and a write stores
it; cartridge ROM never is one, and the baseline's reads as its cells (R43, R45, D17; log entry 4). -/
def Obligations.BusWriteReachesOneCell : Prop :=
  (∀ (addr : Word) (v : Byte) (s t : State), busWrite addr v s = some t →
      t.regs = s.regs ∧ t.t = s.t ∧ t.ime = s.ime ∧ t.imePending = s.imePending ∧ t.halted = s.halted ∧ t.fault = s.fault ∧
        (writesCell addr s = true → t = s.setCell (cellOf addr) v ∧ busRead addr t = some v) ∧
        (writesCell addr s = false → ∀ a, t.cell a = s.cell a) ∧ ∀ a, a ≠ cellOf addr → t.cell a = s.cell a) ∧
    (∀ (addr : Word) (s : State), 0x8000 ≤ addr.toNat → addr.toNat < 0xA000 →
      (writesCell addr s = true ↔ s.ppuMode ≠ .drawing) ∧ (s.ppuMode = .drawing → busRead addr s = some 0xFF) ∧
        (s.ppuMode ≠ .drawing → busRead addr s = some (s.cell addr.toNat))) ∧
    (∀ (addr : Word) (v : Byte) (s : State), 0xA000 ≤ addr.toNat → addr.toNat < 0xC000 →
      (writesCell addr s = true ↔ s.inputs.cartRam = .plain) ∧
        (s.inputs.cartRam = .plain →
          busRead addr s = some (s.cell addr.toNat) ∧ busWrite addr v s = some (s.setCell addr.toNat v))) ∧
    ∀ (addr : Word) (v : Byte) (s : State), addr.toNat < 0x8000 →
      writesCell addr s = false ∧
        (s.inputs.cartRom = .plain → busRead addr s = some (s.cell addr.toNat) ∧ busWrite addr v s = some s)

/-- No step changes a byte of the baseline's cartridge ROM, which ignores writes (R43, decision D17; log entry 4): whatever runs, every
address below 0x8000 reads as before, and the baseline stays. -/
def Obligations.StepsNeverChangeRom : Prop :=
  ∀ s t : State, step s = .next t → (∀ a, a < 0x8000 → t.cell a = s.cell a) ∧
    (s.inputs.cartRom = .plain → t.inputs.cartRom = .plain ∧ ∀ addr : Word, addr.toNat < 0x8000 → busRead addr t = busRead addr s)

/-- The devices outside the core: ExtIO at 0xFF00 to 0xFF02 and 0xFF40 to 0xFF4B (R50, R54), and a cartridge other than the baseline
(R43, R45, R57). A read answers what the configuration supplies for the T-cycle of the access, else a free value (of the T-cycle and
the address, for the cartridge also of the writes delivered to it), and changes nothing but the M-cycle it takes. A write adds one
output event with its T-cycle, address and byte and changes nothing else; every other write adds none. No step takes an
event back or changes an input. The form of the answers and of the events is the model's (log entries 4, 5). -/
def Obligations.OutsideDevicesOnTheBus : Prop :=
  (∀ (addr : Word) (v : Byte) (s : State), s.outsideAt addr →
      busRead addr s = some (s.outsideAnswer addr) ∧
        (∀ k, memRead addr s k = k ((internal s).outsideAnswer addr) (internal s)) ∧
        busWrite addr v s = some { s with outputs := { t := s.t, addr := addr, value := v } :: s.outputs } ∧
        ∀ t, busWrite addr v s = some t →
          t.cartWrites = if addr.toNat < 0xC000 then (addr, v) :: s.cartWrites else s.cartWrites) ∧
    (∀ (addr : Word) (v : Byte) (s t : State), ¬ s.outsideAt addr → busWrite addr v s = some t → t.outputs = s.outputs) ∧
    ∀ s t : State, step s = .next t → t.inputs = s.inputs ∧ s.outputs <:+ t.outputs
end

