-- ==== Sys2Proof/Laws/Exec.lean ====
section
/-! SUPPORT. What `exec` does with the rows of one shape: the shared operation on the row's operands. -/

namespace Sys2Proof.Machine

@[simp] theorem exec_rowLdRegReg (dst : Reg8) (src : Reg8) (s : State) : exec (rowLdRegReg dst src) s = loadReg dst (s.get8 src) s := by
  cases dst <;> cases src <;> rfl

@[simp] theorem exec_rowLdRegN8 (dst : Reg8) (n : Byte) (s : State) : exec (rowLdRegN8 dst n) s = loadReg dst n s := by
  cases dst <;> rfl

@[simp] theorem exec_rowLdRegAtHl (dst : Reg8) (s : State) : exec (rowLdRegAtHl dst) s = loadRegAtHl dst s := by
  cases dst <;> rfl

@[simp] theorem exec_rowLdAtHlReg (r : Reg8) (s : State) : exec (rowLdAtHlReg r) s = storeAtHl (s.get8 r) s := by
  cases r <;> rfl

@[simp] theorem exec_rowLdR16N16 (p : Reg16) (n : Word) (s : State) : exec (rowLdR16N16 p n) s = load16 p n s := by
  cases p <;> rfl

@[simp] theorem exec_rowAluReg (op : AluOp) (r : Reg8) (s : State) : exec (rowAluReg op r) s = aluOn op (s.get8 r) s := by
  cases op <;> cases r <;> rfl

@[simp] theorem exec_rowAluAtHl (op : AluOp) (s : State) : exec (rowAluAtHl op) s = aluAtHl op s := by
  cases op <;> rfl

@[simp] theorem exec_rowAluN8 (op : AluOp) (n : Byte) (s : State) : exec (rowAluN8 op n) s = aluOn op n s := by
  cases op <;> rfl

@[simp] theorem exec_rowIncReg (r : Reg8) (s : State) : exec (rowIncReg r) s = incReg r s := by
  cases r <;> rfl

@[simp] theorem exec_rowDecReg (r : Reg8) (s : State) : exec (rowDecReg r) s = decReg r s := by
  cases r <;> rfl

@[simp] theorem exec_rowIncR16 (p : Reg16) (s : State) : exec (rowIncR16 p) s = inc16 p s := by
  cases p <;> rfl

@[simp] theorem exec_rowDecR16 (p : Reg16) (s : State) : exec (rowDecR16 p) s = dec16 p s := by
  cases p <;> rfl

@[simp] theorem exec_rowAddHl (p : Reg16) (s : State) : exec (rowAddHl p) s = addHl p s := by
  cases p <;> rfl

@[simp] theorem exec_rowPush (p : Reg16Stk) (s : State) : exec (rowPush p) s = push p s := by
  cases p <;> rfl

@[simp] theorem exec_rowPop (p : Reg16Stk) (s : State) : exec (rowPop p) s = pop p s := by
  cases p <;> rfl

@[simp] theorem exec_rowJpCc (cc : Cond) (n : Word) (s : State) : exec (rowJpCc cc n) s = jumpIf cc n s := by
  cases cc <;> rfl

@[simp] theorem exec_rowJrCc (cc : Cond) (n : Byte) (s : State) : exec (rowJrCc cc n) s = jumpRelativeIf cc n s := by
  cases cc <;> rfl

@[simp] theorem exec_rowCallCc (cc : Cond) (n : Word) (s : State) : exec (rowCallCc cc n) s = callIf cc n s := by
  cases cc <;> rfl

@[simp] theorem exec_rowRetCc (cc : Cond) (s : State) : exec (rowRetCc cc) s = retIf cc s := by
  cases cc <;> rfl

@[simp] theorem exec_rowRst (k : Fin 8) (s : State) : exec (rowRst k) s = restart (BitVec.ofNat 16 (8 * k.val)) s := by
  fin_cases k <;> rfl

@[simp] theorem exec_rowRotReg (op : RotOp) (r : Reg8) (s : State) : exec (rowRotReg op r) s = rotReg op r s := by
  cases op <;> cases r <;> rfl

@[simp] theorem exec_rowRotAtHl (op : RotOp) (s : State) : exec (rowRotAtHl op) s = rotAtHl op s := by
  cases op <;> rfl

@[simp] theorem exec_rowBitReg (k : Fin 8) (r : Reg8) (s : State) : exec (rowBitReg k r) s = bitReg k r s := by
  fin_cases k <;> cases r <;> rfl

@[simp] theorem exec_rowBitAtHl (k : Fin 8) (s : State) : exec (rowBitAtHl k) s = bitAtHl k s := by
  fin_cases k <;> rfl

@[simp] theorem exec_rowResReg (k : Fin 8) (r : Reg8) (s : State) : exec (rowResReg k r) s = resReg k r s := by
  fin_cases k <;> cases r <;> rfl

@[simp] theorem exec_rowResAtHl (k : Fin 8) (s : State) : exec (rowResAtHl k) s = resAtHl k s := by
  fin_cases k <;> rfl

@[simp] theorem exec_rowSetReg (k : Fin 8) (r : Reg8) (s : State) : exec (rowSetReg k r) s = setReg k r s := by
  fin_cases k <;> cases r <;> rfl

@[simp] theorem exec_rowSetAtHl (k : Fin 8) (s : State) : exec (rowSetAtHl k) s = setAtHl k s := by
  fin_cases k <;> rfl

end Sys2Proof.Machine
end

