-- ==== Sys2Proof/Laws/State.lean ====
section
/-! SUPPORT. One lemma per field per update of State, each true by definition; no later proof unfolds a record update. -/

namespace Sys2Proof.Machine

@[simp] theorem set8_ime (s : State) (r : Reg8) (v : Byte) : (s.set8 r v).ime = s.ime := rfl
@[simp] theorem set8_imePending (s : State) (r : Reg8) (v : Byte) : (s.set8 r v).imePending = s.imePending := rfl
@[simp] theorem set8_halted (s : State) (r : Reg8) (v : Byte) : (s.set8 r v).halted = s.halted := rfl
@[simp] theorem set8_iflag (s : State) (r : Reg8) (v : Byte) : (s.set8 r v).iflag = s.iflag := rfl
@[simp] theorem set8_ie (s : State) (r : Reg8) (v : Byte) : (s.set8 r v).ie = s.ie := rfl
@[simp] theorem set8_timer (s : State) (r : Reg8) (v : Byte) : (s.set8 r v).timer = s.timer := rfl
@[simp] theorem set8_fault (s : State) (r : Reg8) (v : Byte) : (s.set8 r v).fault = s.fault := rfl
@[simp] theorem set8_t (s : State) (r : Reg8) (v : Byte) : (s.set8 r v).t = s.t := rfl
@[simp] theorem set8_mem (s : State) (r : Reg8) (v : Byte) : (s.set8 r v).mem = s.mem := rfl
@[simp] theorem set8_inputs (s : State) (r : Reg8) (v : Byte) : (s.set8 r v).inputs = s.inputs := rfl
@[simp] theorem set8_outputs (s : State) (r : Reg8) (v : Byte) : (s.set8 r v).outputs = s.outputs := rfl
@[simp] theorem set8_regs_f (s : State) (r : Reg8) (v : Byte) : (s.set8 r v).regs.f = s.regs.f := by cases r <;> rfl
@[simp] theorem set8_regs_sp (s : State) (r : Reg8) (v : Byte) : (s.set8 r v).regs.sp = s.regs.sp := by cases r <;> rfl
@[simp] theorem set8_regs_pc (s : State) (r : Reg8) (v : Byte) : (s.set8 r v).regs.pc = s.regs.pc := by cases r <;> rfl

@[simp] theorem set16_ime (s : State) (r : Reg16) (v : Word) : (s.set16 r v).ime = s.ime := rfl
@[simp] theorem set16_imePending (s : State) (r : Reg16) (v : Word) : (s.set16 r v).imePending = s.imePending := rfl
@[simp] theorem set16_halted (s : State) (r : Reg16) (v : Word) : (s.set16 r v).halted = s.halted := rfl
@[simp] theorem set16_iflag (s : State) (r : Reg16) (v : Word) : (s.set16 r v).iflag = s.iflag := rfl
@[simp] theorem set16_ie (s : State) (r : Reg16) (v : Word) : (s.set16 r v).ie = s.ie := rfl
@[simp] theorem set16_timer (s : State) (r : Reg16) (v : Word) : (s.set16 r v).timer = s.timer := rfl
@[simp] theorem set16_fault (s : State) (r : Reg16) (v : Word) : (s.set16 r v).fault = s.fault := rfl
@[simp] theorem set16_t (s : State) (r : Reg16) (v : Word) : (s.set16 r v).t = s.t := rfl
@[simp] theorem set16_mem (s : State) (r : Reg16) (v : Word) : (s.set16 r v).mem = s.mem := rfl
@[simp] theorem set16_inputs (s : State) (r : Reg16) (v : Word) : (s.set16 r v).inputs = s.inputs := rfl
@[simp] theorem set16_outputs (s : State) (r : Reg16) (v : Word) : (s.set16 r v).outputs = s.outputs := rfl
@[simp] theorem set16_regs_a (s : State) (r : Reg16) (v : Word) : (s.set16 r v).regs.a = s.regs.a := by cases r <;> rfl
@[simp] theorem set16_regs_f (s : State) (r : Reg16) (v : Word) : (s.set16 r v).regs.f = s.regs.f := by cases r <;> rfl
@[simp] theorem set16_regs_pc (s : State) (r : Reg16) (v : Word) : (s.set16 r v).regs.pc = s.regs.pc := by cases r <;> rfl

@[simp] theorem setStk_ime (s : State) (r : Reg16Stk) (v : Word) : (s.setStk r v).ime = s.ime := rfl
@[simp] theorem setStk_imePending (s : State) (r : Reg16Stk) (v : Word) : (s.setStk r v).imePending = s.imePending := rfl
@[simp] theorem setStk_halted (s : State) (r : Reg16Stk) (v : Word) : (s.setStk r v).halted = s.halted := rfl
@[simp] theorem setStk_iflag (s : State) (r : Reg16Stk) (v : Word) : (s.setStk r v).iflag = s.iflag := rfl
@[simp] theorem setStk_ie (s : State) (r : Reg16Stk) (v : Word) : (s.setStk r v).ie = s.ie := rfl
@[simp] theorem setStk_timer (s : State) (r : Reg16Stk) (v : Word) : (s.setStk r v).timer = s.timer := rfl
@[simp] theorem setStk_fault (s : State) (r : Reg16Stk) (v : Word) : (s.setStk r v).fault = s.fault := rfl
@[simp] theorem setStk_t (s : State) (r : Reg16Stk) (v : Word) : (s.setStk r v).t = s.t := rfl
@[simp] theorem setStk_mem (s : State) (r : Reg16Stk) (v : Word) : (s.setStk r v).mem = s.mem := rfl
@[simp] theorem setStk_inputs (s : State) (r : Reg16Stk) (v : Word) : (s.setStk r v).inputs = s.inputs := rfl
@[simp] theorem setStk_outputs (s : State) (r : Reg16Stk) (v : Word) : (s.setStk r v).outputs = s.outputs := rfl
@[simp] theorem setStk_regs_sp (s : State) (r : Reg16Stk) (v : Word) : (s.setStk r v).regs.sp = s.regs.sp := by cases r <;> rfl
@[simp] theorem setStk_regs_pc (s : State) (r : Reg16Stk) (v : Word) : (s.setStk r v).regs.pc = s.regs.pc := by cases r <;> rfl

@[simp] theorem setSp_ime (s : State) (v : Word) : (s.setSp v).ime = s.ime := rfl
@[simp] theorem setSp_imePending (s : State) (v : Word) : (s.setSp v).imePending = s.imePending := rfl
@[simp] theorem setSp_halted (s : State) (v : Word) : (s.setSp v).halted = s.halted := rfl
@[simp] theorem setSp_iflag (s : State) (v : Word) : (s.setSp v).iflag = s.iflag := rfl
@[simp] theorem setSp_ie (s : State) (v : Word) : (s.setSp v).ie = s.ie := rfl
@[simp] theorem setSp_timer (s : State) (v : Word) : (s.setSp v).timer = s.timer := rfl
@[simp] theorem setSp_fault (s : State) (v : Word) : (s.setSp v).fault = s.fault := rfl
@[simp] theorem setSp_t (s : State) (v : Word) : (s.setSp v).t = s.t := rfl
@[simp] theorem setSp_mem (s : State) (v : Word) : (s.setSp v).mem = s.mem := rfl
@[simp] theorem setSp_inputs (s : State) (v : Word) : (s.setSp v).inputs = s.inputs := rfl
@[simp] theorem setSp_outputs (s : State) (v : Word) : (s.setSp v).outputs = s.outputs := rfl
@[simp] theorem setSp_regs_a (s : State) (v : Word) : (s.setSp v).regs.a = s.regs.a := rfl
@[simp] theorem setSp_regs_f (s : State) (v : Word) : (s.setSp v).regs.f = s.regs.f := rfl
@[simp] theorem setSp_regs_b (s : State) (v : Word) : (s.setSp v).regs.b = s.regs.b := rfl
@[simp] theorem setSp_regs_c (s : State) (v : Word) : (s.setSp v).regs.c = s.regs.c := rfl
@[simp] theorem setSp_regs_d (s : State) (v : Word) : (s.setSp v).regs.d = s.regs.d := rfl
@[simp] theorem setSp_regs_e (s : State) (v : Word) : (s.setSp v).regs.e = s.regs.e := rfl
@[simp] theorem setSp_regs_h (s : State) (v : Word) : (s.setSp v).regs.h = s.regs.h := rfl
@[simp] theorem setSp_regs_l (s : State) (v : Word) : (s.setSp v).regs.l = s.regs.l := rfl
@[simp] theorem setSp_regs_sp (s : State) (v : Word) : (s.setSp v).regs.sp = v := rfl
@[simp] theorem setSp_regs_pc (s : State) (v : Word) : (s.setSp v).regs.pc = s.regs.pc := rfl

@[simp] theorem setPc_ime (s : State) (v : Word) : (s.setPc v).ime = s.ime := rfl
@[simp] theorem setPc_imePending (s : State) (v : Word) : (s.setPc v).imePending = s.imePending := rfl
@[simp] theorem setPc_halted (s : State) (v : Word) : (s.setPc v).halted = s.halted := rfl
@[simp] theorem setPc_iflag (s : State) (v : Word) : (s.setPc v).iflag = s.iflag := rfl
@[simp] theorem setPc_ie (s : State) (v : Word) : (s.setPc v).ie = s.ie := rfl
@[simp] theorem setPc_timer (s : State) (v : Word) : (s.setPc v).timer = s.timer := rfl
@[simp] theorem setPc_fault (s : State) (v : Word) : (s.setPc v).fault = s.fault := rfl
@[simp] theorem setPc_t (s : State) (v : Word) : (s.setPc v).t = s.t := rfl
@[simp] theorem setPc_mem (s : State) (v : Word) : (s.setPc v).mem = s.mem := rfl
@[simp] theorem setPc_inputs (s : State) (v : Word) : (s.setPc v).inputs = s.inputs := rfl
@[simp] theorem setPc_outputs (s : State) (v : Word) : (s.setPc v).outputs = s.outputs := rfl
@[simp] theorem setPc_regs_a (s : State) (v : Word) : (s.setPc v).regs.a = s.regs.a := rfl
@[simp] theorem setPc_regs_f (s : State) (v : Word) : (s.setPc v).regs.f = s.regs.f := rfl
@[simp] theorem setPc_regs_b (s : State) (v : Word) : (s.setPc v).regs.b = s.regs.b := rfl
@[simp] theorem setPc_regs_c (s : State) (v : Word) : (s.setPc v).regs.c = s.regs.c := rfl
@[simp] theorem setPc_regs_d (s : State) (v : Word) : (s.setPc v).regs.d = s.regs.d := rfl
@[simp] theorem setPc_regs_e (s : State) (v : Word) : (s.setPc v).regs.e = s.regs.e := rfl
@[simp] theorem setPc_regs_h (s : State) (v : Word) : (s.setPc v).regs.h = s.regs.h := rfl
@[simp] theorem setPc_regs_l (s : State) (v : Word) : (s.setPc v).regs.l = s.regs.l := rfl
@[simp] theorem setPc_regs_sp (s : State) (v : Word) : (s.setPc v).regs.sp = s.regs.sp := rfl
@[simp] theorem setPc_regs_pc (s : State) (v : Word) : (s.setPc v).regs.pc = v := rfl

@[simp] theorem setFlags_ime (s : State) (z n h cy : Bool) : (s.setFlags z n h cy).ime = s.ime := rfl
@[simp] theorem setFlags_imePending (s : State) (z n h cy : Bool) : (s.setFlags z n h cy).imePending = s.imePending := rfl
@[simp] theorem setFlags_halted (s : State) (z n h cy : Bool) : (s.setFlags z n h cy).halted = s.halted := rfl
@[simp] theorem setFlags_iflag (s : State) (z n h cy : Bool) : (s.setFlags z n h cy).iflag = s.iflag := rfl
@[simp] theorem setFlags_ie (s : State) (z n h cy : Bool) : (s.setFlags z n h cy).ie = s.ie := rfl
@[simp] theorem setFlags_timer (s : State) (z n h cy : Bool) : (s.setFlags z n h cy).timer = s.timer := rfl
@[simp] theorem setFlags_fault (s : State) (z n h cy : Bool) : (s.setFlags z n h cy).fault = s.fault := rfl
@[simp] theorem setFlags_t (s : State) (z n h cy : Bool) : (s.setFlags z n h cy).t = s.t := rfl
@[simp] theorem setFlags_mem (s : State) (z n h cy : Bool) : (s.setFlags z n h cy).mem = s.mem := rfl
@[simp] theorem setFlags_inputs (s : State) (z n h cy : Bool) : (s.setFlags z n h cy).inputs = s.inputs := rfl
@[simp] theorem setFlags_outputs (s : State) (z n h cy : Bool) : (s.setFlags z n h cy).outputs = s.outputs := rfl
@[simp] theorem setFlags_regs_a (s : State) (z n h cy : Bool) : (s.setFlags z n h cy).regs.a = s.regs.a := rfl
@[simp] theorem setFlags_regs_f (s : State) (z n h cy : Bool) : (s.setFlags z n h cy).regs.f = maskF (packFlags z n h cy) := rfl
@[simp] theorem setFlags_regs_b (s : State) (z n h cy : Bool) : (s.setFlags z n h cy).regs.b = s.regs.b := rfl
@[simp] theorem setFlags_regs_c (s : State) (z n h cy : Bool) : (s.setFlags z n h cy).regs.c = s.regs.c := rfl
@[simp] theorem setFlags_regs_d (s : State) (z n h cy : Bool) : (s.setFlags z n h cy).regs.d = s.regs.d := rfl
@[simp] theorem setFlags_regs_e (s : State) (z n h cy : Bool) : (s.setFlags z n h cy).regs.e = s.regs.e := rfl
@[simp] theorem setFlags_regs_h (s : State) (z n h cy : Bool) : (s.setFlags z n h cy).regs.h = s.regs.h := rfl
@[simp] theorem setFlags_regs_l (s : State) (z n h cy : Bool) : (s.setFlags z n h cy).regs.l = s.regs.l := rfl
@[simp] theorem setFlags_regs_sp (s : State) (z n h cy : Bool) : (s.setFlags z n h cy).regs.sp = s.regs.sp := rfl
@[simp] theorem setFlags_regs_pc (s : State) (z n h cy : Bool) : (s.setFlags z n h cy).regs.pc = s.regs.pc := rfl

@[simp] theorem setCell_regs (s : State) (a : Nat) (v : Byte) : (s.setCell a v).regs = s.regs := rfl
@[simp] theorem setCell_ime (s : State) (a : Nat) (v : Byte) : (s.setCell a v).ime = s.ime := rfl
@[simp] theorem setCell_imePending (s : State) (a : Nat) (v : Byte) : (s.setCell a v).imePending = s.imePending := rfl
@[simp] theorem setCell_halted (s : State) (a : Nat) (v : Byte) : (s.setCell a v).halted = s.halted := rfl
@[simp] theorem setCell_iflag (s : State) (a : Nat) (v : Byte) : (s.setCell a v).iflag = s.iflag := rfl
@[simp] theorem setCell_ie (s : State) (a : Nat) (v : Byte) : (s.setCell a v).ie = s.ie := rfl
@[simp] theorem setCell_timer (s : State) (a : Nat) (v : Byte) : (s.setCell a v).timer = s.timer := rfl
@[simp] theorem setCell_fault (s : State) (a : Nat) (v : Byte) : (s.setCell a v).fault = s.fault := rfl
@[simp] theorem setCell_t (s : State) (a : Nat) (v : Byte) : (s.setCell a v).t = s.t := rfl
@[simp] theorem setCell_inputs (s : State) (a : Nat) (v : Byte) : (s.setCell a v).inputs = s.inputs := rfl
@[simp] theorem setCell_outputs (s : State) (a : Nat) (v : Byte) : (s.setCell a v).outputs = s.outputs := rfl
@[simp] theorem setCell_mem (s : State) (a : Nat) (v : Byte) : (s.setCell a v).mem = s.mem.store a v := rfl

@[simp] theorem deliver_regs (s : State) (addr : Word) (v : Byte) : (s.deliver addr v).regs = s.regs := rfl
@[simp] theorem deliver_ime (s : State) (addr : Word) (v : Byte) : (s.deliver addr v).ime = s.ime := rfl
@[simp] theorem deliver_imePending (s : State) (addr : Word) (v : Byte) : (s.deliver addr v).imePending = s.imePending := rfl
@[simp] theorem deliver_halted (s : State) (addr : Word) (v : Byte) : (s.deliver addr v).halted = s.halted := rfl
@[simp] theorem deliver_iflag (s : State) (addr : Word) (v : Byte) : (s.deliver addr v).iflag = s.iflag := rfl
@[simp] theorem deliver_ie (s : State) (addr : Word) (v : Byte) : (s.deliver addr v).ie = s.ie := rfl
@[simp] theorem deliver_timer (s : State) (addr : Word) (v : Byte) : (s.deliver addr v).timer = s.timer := rfl
@[simp] theorem deliver_fault (s : State) (addr : Word) (v : Byte) : (s.deliver addr v).fault = s.fault := rfl
@[simp] theorem deliver_t (s : State) (addr : Word) (v : Byte) : (s.deliver addr v).t = s.t := rfl
@[simp] theorem deliver_mem (s : State) (addr : Word) (v : Byte) : (s.deliver addr v).mem = s.mem := rfl
@[simp] theorem deliver_inputs (s : State) (addr : Word) (v : Byte) : (s.deliver addr v).inputs = s.inputs := rfl

@[simp] theorem tick_regs (s : State) : (tick s).regs = s.regs := rfl
@[simp] theorem tick_ime (s : State) : (tick s).ime = s.ime := rfl
@[simp] theorem tick_imePending (s : State) : (tick s).imePending = s.imePending := rfl
@[simp] theorem tick_halted (s : State) : (tick s).halted = s.halted := rfl
@[simp] theorem tick_ie (s : State) : (tick s).ie = s.ie := rfl
@[simp] theorem tick_fault (s : State) : (tick s).fault = s.fault := rfl
@[simp] theorem tick_mem (s : State) : (tick s).mem = s.mem := rfl
@[simp] theorem tick_inputs (s : State) : (tick s).inputs = s.inputs := rfl
@[simp] theorem tick_outputs (s : State) : (tick s).outputs = s.outputs := rfl
@[simp] theorem tick_t (s : State) : (tick s).t = s.t + 1 := rfl
@[simp] theorem internal_regs (s : State) : (internal s).regs = s.regs := rfl
@[simp] theorem internal_ime (s : State) : (internal s).ime = s.ime := rfl
@[simp] theorem internal_imePending (s : State) : (internal s).imePending = s.imePending := rfl
@[simp] theorem internal_halted (s : State) : (internal s).halted = s.halted := rfl
@[simp] theorem internal_ie (s : State) : (internal s).ie = s.ie := rfl
@[simp] theorem internal_fault (s : State) : (internal s).fault = s.fault := rfl
@[simp] theorem internal_mem (s : State) : (internal s).mem = s.mem := rfl
@[simp] theorem internal_inputs (s : State) : (internal s).inputs = s.inputs := rfl
@[simp] theorem internal_outputs (s : State) : (internal s).outputs = s.outputs := rfl
@[simp] theorem internal_t (s : State) : (internal s).t = s.t + 4 := rfl

end Sys2Proof.Machine
end

