-- ==== Sys2Proof/Laws/Memory.lean ====
section
/-! SUPPORT. Reading after writing a cell, and that every memory operation keeps the canonical form. -/

namespace Sys2Proof.Machine

theorem lookup_store_same (m : Memory) (a : Nat) (v : Byte) : (m.store a v).lookup a = some v := by
  induction m with
  | nil => simp [Memory.store, Memory.lookup]
  | cons x m ih =>
    obtain ⟨k, w⟩ := x
    simp only [Memory.store]
    split
    · simp [Memory.lookup]
    · split
      · simp [Memory.lookup]
      · simp [Memory.lookup, *]

theorem lookup_store_other (m : Memory) {a b : Nat} (v : Byte) (h : b ≠ a) : (m.store a v).lookup b = m.lookup b := by
  induction m with
  | nil => simp [Memory.store, Memory.lookup, h]
  | cons x m ih =>
    obtain ⟨k, w⟩ := x
    simp only [Memory.store]
    split
    · simp [Memory.lookup, h]
    · split
      · subst_vars; simp [Memory.lookup, h]
      · simp [Memory.lookup, ih]

/-- A cell just written reads as the byte written. -/
@[simp] theorem cell_setCell_same (s : State) (a : Nat) (v : Byte) : (s.setCell a v).cell a = v := by
  simp [State.cell, lookup_store_same]

/-- Writing a cell leaves every other cell. -/
theorem cell_setCell_other (s : State) {a b : Nat} (v : Byte) (h : b ≠ a) : (s.setCell a v).cell b = s.cell b := by
  simp [State.cell, lookup_store_other _ _ h]

/-- A cell depends on the memory alone. -/
theorem cell_congr {s t : State} (h : t.mem = s.mem) (a : Nat) : t.cell a = s.cell a := by
  simp [State.cell, h]

theorem mem_store_key {m : Memory} {a : Nat} {v : Byte} {x : Host.Cell} (h : x ∈ m.store a v) : x.1 = a ∨ x ∈ m := by
  induction m with
  | nil => simp [Memory.store] at h; simp [h]
  | cons y m ih =>
    obtain ⟨k, w⟩ := y
    simp only [Memory.store] at h
    split at h
    · rcases List.mem_cons.1 h with rfl | h
      · exact .inl rfl
      · exact .inr h
    · split at h
      · rcases List.mem_cons.1 h with rfl | h
        · exact .inl rfl
        · exact .inr (List.mem_cons_of_mem _ h)
      · rcases List.mem_cons.1 h with rfl | h
        · exact .inr (List.mem_cons_self ..)
        · exact (ih h).imp_right (List.mem_cons_of_mem _)

theorem store_rising {m : Memory} (hm : m.Pairwise fun x y => x.1 < y.1) (a : Nat) (v : Byte) :
    (m.store a v).Pairwise fun x y => x.1 < y.1 := by
  induction m with
  | nil => simp [Memory.store]
  | cons y m ih =>
    obtain ⟨k, w⟩ := y
    obtain ⟨hk, hm'⟩ := List.pairwise_cons.1 hm
    simp only [Memory.store]
    split
    · rename_i hak
      refine List.pairwise_cons.2 ⟨fun x hx => ?_, hm⟩
      rcases List.mem_cons.1 hx with rfl | hx
      · exact hak
      · exact lt_trans hak (hk x hx)
    · split
      · rename_i hak
        exact List.pairwise_cons.2 ⟨fun x hx => hak ▸ hk x hx, hm'⟩
      · refine List.pairwise_cons.2 ⟨fun x hx => ?_, ih hm'⟩
        rcases mem_store_key hx with hx | hx
        · simp only [hx]; omega
        · exact hk x hx

/-- Writing a cell of a store keeps the canonical form. -/
theorem store_wf {m : Memory} {a : Nat} (v : Byte) (hm : m.wf = true) (ha : isCell a = true) : (m.store a v).wf = true := by
  simp only [Memory.wf, Bool.and_eq_true, decide_eq_true_eq, List.all_eq_true] at hm ⊢
  refine ⟨store_rising hm.1 a v, fun x hx => ?_⟩
  rcases mem_store_key hx with hx | hx
  · rw [hx]; exact ha
  · exact hm.2 x hx

/-- The memory at reset has the canonical form. -/
theorem reset_mem_wf : State.reset.mem.wf = true := by decide

theorem loadByte_wf (addr : Word) (b : Byte) (s : State) (h : s.mem.wf = true) : (loadByte addr b s).mem.wf = true := by
  unfold loadByte
  split
  · refine store_wf b ?_ ‹_›
    unfold State.plainCartAt
    split
    · exact h
    · split <;> exact h
  · exact h

theorem loadBytes_wf (bs : List Byte) (addr : Word) (s : State) (h : s.mem.wf = true) : (loadBytes addr bs s).mem.wf = true := by
  induction bs generalizing addr s with
  | nil => exact h
  | cons b bs ih => exact ih _ _ (loadByte_wf _ _ _ h)

end Sys2Proof.Machine
end

