-- ==== Sys2Proof/Laws/Values.lean ====
section
/-! SUPPORT. Small facts about words and bytes, the flag register, and the registers. -/

namespace Sys2Proof

theorem toNat_bytesToWord (lo hi : Byte) : (bytesToWord lo hi).toNat = hi.toNat * 256 + lo.toNat := by
  rw [bytesToWord, BitVec.toNat_append, ← Nat.shiftLeft_add_eq_or_of_lt lo.isLt, Nat.shiftLeft_eq]

theorem toNat_loByte (w : Word) : (loByte w).toNat = w.toNat % 256 := by
  simp [loByte]

theorem toNat_hiByte (w : Word) : (hiByte w).toNat = w.toNat / 256 := by
  have := w.isLt
  simp only [hiByte, BitVec.toNat_setWidth, BitVec.toNat_ushiftRight, Nat.shiftRight_eq_div_pow]
  omega

@[simp] theorem bytesToWord_lo_hi (w : Word) : bytesToWord (loByte w) (hiByte w) = w := by
  apply BitVec.eq_of_toNat_eq
  rw [toNat_bytesToWord, toNat_loByte, toNat_hiByte]
  omega

@[simp] theorem loByte_bytesToWord (lo hi : Byte) : loByte (bytesToWord lo hi) = lo := by
  apply BitVec.eq_of_toNat_eq
  have := lo.isLt
  rw [toNat_loByte, toNat_bytesToWord]
  omega

@[simp] theorem hiByte_bytesToWord (lo hi : Byte) : hiByte (bytesToWord lo hi) = hi := by
  apply BitVec.eq_of_toNat_eq
  have := lo.isLt
  rw [toNat_hiByte, toNat_bytesToWord]
  omega

namespace Machine

@[simp] theorem maskF_packFlags (z n h cy : Bool) : maskF (packFlags z n h cy) = packFlags z n h cy := by
  cases z <;> cases n <;> cases h <;> cases cy <;> rfl

@[simp] theorem flagZ_packFlags (z n h cy : Bool) : flagZ (packFlags z n h cy) = z := by
  cases z <;> cases n <;> cases h <;> cases cy <;> rfl

@[simp] theorem flagN_packFlags (z n h cy : Bool) : flagN (packFlags z n h cy) = n := by
  cases z <;> cases n <;> cases h <;> cases cy <;> rfl

@[simp] theorem flagH_packFlags (z n h cy : Bool) : flagH (packFlags z n h cy) = h := by
  cases z <;> cases n <;> cases h <;> cases cy <;> rfl

@[simp] theorem flagC_packFlags (z n h cy : Bool) : flagC (packFlags z n h cy) = cy := by
  cases z <;> cases n <;> cases h <;> cases cy <;> rfl

@[simp] theorem maskF_low (v : Byte) : maskF v &&& 0x0F = 0 := by
  simp only [maskF, BitVec.and_assoc]
  exact BitVec.and_zero

@[simp] theorem setFlags_zf (s : State) (z n h cy : Bool) : (s.setFlags z n h cy).zf = z := by simp [State.zf]
@[simp] theorem setFlags_nf (s : State) (z n h cy : Bool) : (s.setFlags z n h cy).nf = n := by simp [State.nf]
@[simp] theorem setFlags_hf (s : State) (z n h cy : Bool) : (s.setFlags z n h cy).hf = h := by simp [State.hf]
@[simp] theorem setFlags_cf (s : State) (z n h cy : Bool) : (s.setFlags z n h cy).cf = cy := by simp [State.cf]

@[simp] theorem setFlags_get8 (s : State) (z n h cy : Bool) (r : Reg8) : (s.setFlags z n h cy).get8 r = s.get8 r := by
  cases r <;> rfl
@[simp] theorem setFlags_get16 (s : State) (z n h cy : Bool) (p : Reg16) : (s.setFlags z n h cy).get16 p = s.get16 p := by
  cases p <;> rfl

@[simp] theorem get8_set8_same (s : State) (r : Reg8) (v : Byte) : (s.set8 r v).get8 r = v := by cases r <;> rfl

theorem get8_set8_other (s : State) {r q : Reg8} (v : Byte) (h : q ≠ r) : (s.set8 r v).get8 q = s.get8 q := by
  cases r <;> cases q <;> first | rfl | exact absurd rfl h

@[simp] theorem get16_set16_same (s : State) (p : Reg16) (v : Word) : (s.set16 p v).get16 p = v := by
  cases p <;> simp [State.get16, State.set16, Regs.get16, Regs.set16]

theorem get16_set16_other (s : State) {p q : Reg16} (v : Word) (h : q ≠ p) : (s.set16 p v).get16 q = s.get16 q := by
  cases p <;> cases q <;> first | rfl | exact absurd rfl h

end Machine

end Sys2Proof
end

