-- ==== Sys2Proof/Laws/Ops.lean ====
section
/-! SUPPORT. What each shared operation can do, said once: time, the timer, the bus, the accesses, the stack. -/

namespace Sys2Proof.Machine

/-! Time. -/

@[simp] theorem internal_cell (s : State) (a : Nat) : (internal s).cell a = s.cell a := rfl
@[simp] theorem tick_cell (s : State) (a : Nat) : (tick s).cell a = s.cell a := rfl
@[simp] theorem internal_get8 (s : State) (r : Reg8) : (internal s).get8 r = s.get8 r := rfl
@[simp] theorem internal_get16 (s : State) (p : Reg16) : (internal s).get16 p = s.get16 p := rfl
@[simp] theorem internal_getStk (s : State) (p : Reg16Stk) : (internal s).getStk p = s.getStk p := rfl
@[simp] theorem internal_hl (s : State) : (internal s).hl = s.hl := rfl
@[simp] theorem internal_zf (s : State) : (internal s).zf = s.zf := rfl
@[simp] theorem internal_nf (s : State) : (internal s).nf = s.nf := rfl
@[simp] theorem internal_hf (s : State) : (internal s).hf = s.hf := rfl
@[simp] theorem internal_cf (s : State) : (internal s).cf = s.cf := rfl

@[simp] theorem internals_regs (k : Nat) (s : State) : (internals k s).regs = s.regs := by
  induction k generalizing s with
  | zero => rfl
  | succ k ih => exact ih _

@[simp] theorem internals_ime (k : Nat) (s : State) : (internals k s).ime = s.ime := by
  induction k generalizing s with
  | zero => rfl
  | succ k ih => exact ih _

@[simp] theorem internals_imePending (k : Nat) (s : State) : (internals k s).imePending = s.imePending := by
  induction k generalizing s with
  | zero => rfl
  | succ k ih => exact ih _

@[simp] theorem internals_halted (k : Nat) (s : State) : (internals k s).halted = s.halted := by
  induction k generalizing s with
  | zero => rfl
  | succ k ih => exact ih _

@[simp] theorem internals_ie (k : Nat) (s : State) : (internals k s).ie = s.ie := by
  induction k generalizing s with
  | zero => rfl
  | succ k ih => exact ih _

@[simp] theorem internals_fault (k : Nat) (s : State) : (internals k s).fault = s.fault := by
  induction k generalizing s with
  | zero => rfl
  | succ k ih => exact ih _

@[simp] theorem internals_mem (k : Nat) (s : State) : (internals k s).mem = s.mem := by
  induction k generalizing s with
  | zero => rfl
  | succ k ih => exact ih _

@[simp] theorem internals_inputs (k : Nat) (s : State) : (internals k s).inputs = s.inputs := by
  induction k generalizing s with
  | zero => rfl
  | succ k ih => exact ih _

@[simp] theorem internals_outputs (k : Nat) (s : State) : (internals k s).outputs = s.outputs := by
  induction k generalizing s with
  | zero => rfl
  | succ k ih => exact ih _

@[simp] theorem internals_cell (k : Nat) (s : State) (a : Nat) : (internals k s).cell a = s.cell a := by
  simp [State.cell]

theorem internals_succ (k : Nat) (s : State) : internals (k + 1) s = internal (internals k s) := by
  induction k generalizing s with
  | zero => rfl
  | succ k ih => exact ih _

/-- Time counts four T-cycles per M-cycle. -/
theorem internals_t (k : Nat) (s : State) : (internals k s).t = s.t + 4 * k := by
  induction k generalizing s with
  | zero => rfl
  | succ k ih => rw [show internals (k + 1) s = internals k (internal s) from rfl, ih]; show s.t + 4 + 4 * k = _; omega

/-- Time does not look at the registers: a register write commutes with an M-cycle. -/
@[simp] theorem internal_setPc (s : State) (v : Word) : internal (s.setPc v) = (internal s).setPc v := rfl
@[simp] theorem internal_setSp (s : State) (v : Word) : internal (s.setSp v) = (internal s).setSp v := rfl
@[simp] theorem internal_set8 (s : State) (r : Reg8) (v : Byte) : internal (s.set8 r v) = (internal s).set8 r v := rfl
@[simp] theorem internal_set16 (s : State) (p : Reg16) (v : Word) : internal (s.set16 p v) = (internal s).set16 p v := rfl
@[simp] theorem internal_setFlags (s : State) (z n h cy : Bool) : internal (s.setFlags z n h cy) = (internal s).setFlags z n h cy := rfl

/-! The timer. -/

theorem incTima_ok (tm : Timer) (h : tm.ok) : tm.incTima.ok := by
  unfold Timer.incTima
  simp only
  split
  · exact ⟨le_refl 4, fun _ => (by decide : 1 ≤ 4)⟩
  · exact h

theorem countReload_ok (tm : Timer) (h : tm.ok) : tm.countReload.1.ok := by
  obtain ⟨h4, h1⟩ := h
  unfold Timer.countReload
  split
  · split
    · exact ⟨by simp, by simp⟩
    · refine ⟨?_, fun _ => ?_⟩ <;> simp only <;> omega
  · exact ⟨h4, h1⟩

theorem countDiv_ok (tm : Timer) (h : tm.ok) : tm.countDiv.ok := by
  unfold Timer.countDiv
  simp only
  split
  · exact incTima_ok _ h
  · exact h

theorem timerTick_ok (tm : Timer) (h : tm.ok) : tm.tick.1.ok := countDiv_ok _ (countReload_ok _ h)

theorem writeDiv_ok (tm : Timer) (h : tm.ok) : tm.writeDiv.ok := by
  unfold Timer.writeDiv
  simp only
  split
  · exact incTima_ok _ h
  · exact h

theorem writeTac_ok (tm : Timer) (v : Byte) (h : tm.ok) : (tm.writeTac v).ok := by
  unfold Timer.writeTac
  simp only
  split
  · exact incTima_ok _ h
  · exact h

theorem writeTima_ok (tm : Timer) (v : Byte) (h : tm.ok) : (tm.writeTima v).ok := by
  unfold Timer.writeTima
  split
  · exact ⟨by simp, by simp⟩
  · exact h

@[simp] theorem incTima_div (tm : Timer) : tm.incTima.divCounter = tm.divCounter := by
  unfold Timer.incTima
  simp only
  split <;> rfl

@[simp] theorem incTima_tac (tm : Timer) : tm.incTima.tac = tm.tac := by
  unfold Timer.incTima
  simp only
  split <;> rfl

@[simp] theorem incTima_tma (tm : Timer) : tm.incTima.tma = tm.tma := by
  unfold Timer.incTima
  simp only
  split <;> rfl

@[simp] theorem countReload_div (tm : Timer) : tm.countReload.1.divCounter = tm.divCounter := by
  unfold Timer.countReload
  split
  · split <;> rfl
  · rfl

@[simp] theorem countDiv_div (tm : Timer) : tm.countDiv.divCounter = tm.divCounter + 1 := by
  unfold Timer.countDiv
  simp only
  split <;> simp

theorem tick_div (s : State) : (tick s).timer.divCounter = s.timer.divCounter + 1 := by
  simp [tick, Timer.tick]

/-- An M-cycle advances the divider by 4. -/
theorem internal_div (s : State) : (internal s).timer.divCounter = s.timer.divCounter + 4 := by
  simp only [internal, tick_div, BitVec.add_assoc]
  rfl

theorem writeDiv_div (tm : Timer) : tm.writeDiv.divCounter = 0 := by
  unfold Timer.writeDiv
  simp only
  split <;> simp

theorem writeTac_div (tm : Timer) (v : Byte) : (tm.writeTac v).divCounter = tm.divCounter := by
  unfold Timer.writeTac
  simp only
  split <;> simp

theorem writeTima_div (tm : Timer) (v : Byte) : (tm.writeTima v).divCounter = tm.divCounter := by
  unfold Timer.writeTima
  split <;> rfl

theorem tick_timer_ok (s : State) (h : s.timer.ok) : (tick s).timer.ok := timerTick_ok _ h

theorem internal_timer_ok (s : State) (h : s.timer.ok) : (internal s).timer.ok :=
  tick_timer_ok _ (tick_timer_ok _ (tick_timer_ok _ (tick_timer_ok _ h)))

/-! The bus. -/

/-- A read succeeds exactly at the addresses that have a device (R53). -/
theorem busRead_mapped {addr : Word} (h : mapped addr = true) (s : State) : ∃ v, busRead addr s = some v := by
  unfold mapped at h
  unfold busRead
  cases hr : region addr <;> simp_all

theorem busRead_unmapped {addr : Word} (h : mapped addr = false) (s : State) : busRead addr s = none := by
  simp only [mapped, bne_eq_false_iff_eq] at h
  simp [busRead, h]

/-- A write succeeds exactly at the addresses that have a device (R53). -/
theorem busWrite_mapped {addr : Word} (h : mapped addr = true) (v : Byte) (s : State) : ∃ t, busWrite addr v s = some t := by
  unfold mapped at h
  unfold busWrite
  cases hr : region addr <;> simp_all

theorem busWrite_unmapped {addr : Word} (h : mapped addr = false) (v : Byte) (s : State) : busWrite addr v s = none := by
  simp only [mapped, bne_eq_false_iff_eq] at h
  simp [busWrite, h]

theorem mapped_of_busRead {addr : Word} {s : State} {v : Byte} (h : busRead addr s = some v) : mapped addr = true := by
  cases hm : mapped addr
  · simp [busRead_unmapped hm] at h
  · rfl

@[simp] theorem cellOf_eq_of_not_echo {addr : Word} (h : region addr ≠ .echo) : cellOf addr = addr.toNat := by
  simp [cellOf, h]

/-- A write that reaches a cell is exactly the write of that cell. -/
theorem busWrite_cell {addr : Word} {s : State} (v : Byte) (h : writesCell addr s = true) :
    busWrite addr v s = some (s.setCell (cellOf addr) v) := by
  unfold writesCell at h
  unfold busWrite
  cases hr : region addr <;> simp_all [cartRamWrite]

/-- Everything a bus write can do (R42): write the cell it reaches; nothing; an output event for a device outside the core; or a write
of one register of the timer or the interrupt controller. -/
theorem busWrite_cases {addr : Word} {v : Byte} {s t : State} (h : busWrite addr v s = some t) :
    (writesCell addr s = true ∧ t = s.setCell (cellOf addr) v) ∨
      writesCell addr s = false ∧
        (t = s ∨ t = s.deliver addr v ∨
          (∃ tm, t = { s with timer := tm } ∧
            (tm = s.timer.writeDiv ∨ tm = s.timer.writeTima v ∨ tm = s.timer.writeTma v ∨ tm = s.timer.writeTac v)) ∨
          (∃ f, t = { s with iflag := f }) ∨ ∃ e, t = { s with ie := e }) := by
  cases hc : writesCell addr s
  · refine .inr ⟨rfl, ?_⟩
    unfold writesCell at hc
    unfold busWrite at h
    cases hr : region addr <;> simp only [hr, Option.some.injEq, reduceCtorEq] at h hc <;> subst h
    case rom0 | romX => unfold cartRomWrite; split <;> simp
    case vram => simp_all
    case oam => simp_all
    case cartRam => simp_all [cartRamWrite]; cases hi : s.inputs.cartRam <;> simp_all
    case unusable => exact .inl rfl
    case joypadSerial | ppuRegs => exact .inr (.inl rfl)
    case div => exact .inr (.inr (.inl ⟨_, rfl, .inl rfl⟩))
    case tima => exact .inr (.inr (.inl ⟨_, rfl, .inr (.inl rfl)⟩))
    case tma => exact .inr (.inr (.inl ⟨_, rfl, .inr (.inr (.inl rfl))⟩))
    case tac => exact .inr (.inr (.inl ⟨_, rfl, .inr (.inr (.inr rfl))⟩))
    case iflag => exact .inr (.inr (.inr (.inl ⟨_, rfl⟩)))
    case ie => exact .inr (.inr (.inr (.inr ⟨_, rfl⟩)))
  · rw [busWrite_cell v hc, Option.some.injEq] at h
    exact .inl ⟨rfl, h.symm⟩

/-- What a write leaves: the registers, IME, the halted state, the latch, time and the inputs (R15). -/
theorem busWrite_frame {addr : Word} {v : Byte} {s t : State} (h : busWrite addr v s = some t) :
    t.regs = s.regs ∧ t.ime = s.ime ∧ t.imePending = s.imePending ∧ t.halted = s.halted ∧ t.fault = s.fault ∧ t.t = s.t ∧
      t.inputs = s.inputs := by
  obtain ⟨-, rfl⟩ | ⟨-, rfl | rfl | ⟨tm, rfl, -⟩ | ⟨f, rfl⟩ | ⟨e, rfl⟩⟩ := busWrite_cases h <;>
    exact ⟨rfl, rfl, rfl, rfl, rfl, rfl, rfl⟩

/-- A write that reaches no cell leaves memory. -/
theorem busWrite_mem_of_not_cell {addr : Word} {v : Byte} {s t : State} (h : writesCell addr s = false)
    (hw : busWrite addr v s = some t) : t.mem = s.mem := by
  obtain ⟨hc, -⟩ | ⟨-, rfl | rfl | ⟨tm, rfl, -⟩ | ⟨f, rfl⟩ | ⟨e, rfl⟩⟩ := busWrite_cases hw
  · rw [h] at hc; cases hc
  all_goals rfl

/-- Every byte but the one stored to is unchanged by a write, and the byte stored to is the value. -/
theorem busWrite_cells {addr : Word} {v : Byte} {s t : State} (h : busWrite addr v s = some t) :
    (∀ a, (writesCell addr s = true → a ≠ cellOf addr) → t.cell a = s.cell a) ∧
      (writesCell addr s = true → t.cell (cellOf addr) = v) := by
  cases hc : writesCell addr s
  · exact ⟨fun a _ => cell_congr (busWrite_mem_of_not_cell hc h) a, by simp⟩
  · rw [busWrite_cell v hc, Option.some.injEq] at h
    subst h
    exact ⟨fun a ha => cell_setCell_other s v (ha rfl), fun _ => cell_setCell_same ..⟩

/-- The bounds of the ranges that hold cells (R41). -/
theorem region_bounds {addr : Word} : ∀ {r : Region}, region addr = r →
    match r with
    | .rom0 => addr.toNat < 0x4000
    | .romX => 0x4000 ≤ addr.toNat ∧ addr.toNat < 0x8000
    | .vram => 0x8000 ≤ addr.toNat ∧ addr.toNat < 0xA000
    | .cartRam => 0xA000 ≤ addr.toNat ∧ addr.toNat < 0xC000
    | .wram => 0xC000 ≤ addr.toNat ∧ addr.toNat < 0xE000
    | .echo => 0xE000 ≤ addr.toNat ∧ addr.toNat < 0xFE00
    | .oam => 0xFE00 ≤ addr.toNat ∧ addr.toNat < 0xFEA0
    | .unusable => 0xFEA0 ≤ addr.toNat ∧ addr.toNat < 0xFF00
    | .hram => 0xFF80 ≤ addr.toNat ∧ addr.toNat < 0xFFFF
    | .ie => addr.toNat = 0xFFFF
    | _ => 0xFF00 ≤ addr.toNat ∧ addr.toNat < 0xFF80 := by
  have hl := addr.isLt
  intro r h
  unfold region at h
  simp only at h
  generalize addr.toNat = a at *
  cases r <;> simp only <;> grind (splits := 40)

/-- The cell behind a store's address is a cell. -/
theorem isCell_cellOf {addr : Word} {s : State} (h : writesCell addr s = true) : isCell (cellOf addr) = true := by
  unfold writesCell at h
  unfold cellOf isCell
  simp only [Bool.or_eq_true, Bool.and_eq_true, decide_eq_true_eq]
  cases hr : region addr <;> have hb := region_bounds hr <;>
    simp only [hr, reduceCtorEq, if_false, if_true] at h hb ⊢ <;> omega

theorem busWrite_wf {addr : Word} {v : Byte} {s t : State} (h : busWrite addr v s = some t) (hm : s.mem.wf = true) :
    t.mem.wf = true := by
  cases hc : writesCell addr s
  · rw [busWrite_mem_of_not_cell hc h]; exact hm
  · rw [busWrite_cell v hc, Option.some.injEq] at h
    subst h
    exact store_wf v hm (isCell_cellOf hc)

theorem busWrite_timer_ok {addr : Word} {v : Byte} {s t : State} (h : busWrite addr v s = some t) (ht : s.timer.ok) :
    t.timer.ok := by
  obtain ⟨-, rfl⟩ | ⟨-, rfl | rfl | ⟨tm, rfl, rfl | rfl | rfl | rfl⟩ | ⟨f, rfl⟩ | ⟨e, rfl⟩⟩ := busWrite_cases h
  case inr.inr.inr.inl.inl => exact writeDiv_ok _ ht
  case inr.inr.inr.inl.inr.inl => exact writeTima_ok _ _ ht
  case inr.inr.inr.inl.inr.inr.inr => exact writeTac_ok _ _ ht
  all_goals exact ht

theorem busWrite_div {addr : Word} {v : Byte} {s t : State} (h : busWrite addr v s = some t) :
    t.timer.divCounter = s.timer.divCounter ∨ t.timer.divCounter = 0 := by
  obtain ⟨-, rfl⟩ | ⟨-, rfl | rfl | ⟨tm, rfl, rfl | rfl | rfl | rfl⟩ | ⟨f, rfl⟩ | ⟨e, rfl⟩⟩ := busWrite_cases h
  case inr.inr.inr.inl.inl => exact .inr (writeDiv_div _)
  case inr.inr.inr.inl.inr.inl => exact .inl (writeTima_div _ _)
  case inr.inr.inr.inl.inr.inr.inr => exact .inl (writeTac_div _ _)
  all_goals exact .inl rfl

/-- A write adds at most one output event. -/
theorem busWrite_outputs {addr : Word} {v : Byte} {s t : State} (h : busWrite addr v s = some t) : s.outputs <:+ t.outputs := by
  obtain ⟨-, rfl⟩ | ⟨-, rfl | rfl | ⟨tm, rfl, -⟩ | ⟨f, rfl⟩ | ⟨e, rfl⟩⟩ := busWrite_cases h
  case inr.inr.inl => exact List.suffix_cons ..
  all_goals exact List.suffix_refl _

/-! Faults. -/

theorem stopped_ne_next (c : FaultCause) (s t : State) : stopped c s ≠ .next t := by
  cases c <;> simp [stopped]

theorem raise_ne_next (c : FaultCause) (s t : State) : raise c s ≠ .next t := by
  unfold raise
  simp only
  exact stopped_ne_next _ _ _

/-! The accesses: what follows from a next state, and when they go on. -/

theorem memRead_next {addr : Word} {s t : State} {k : Byte → State → StepResult} (h : memRead addr s k = .next t) :
    ∃ v, busRead addr (internal s) = some v ∧ k v (internal s) = .next t := by
  unfold memRead at h
  split at h
  · exact ⟨_, ‹_›, h⟩
  · exact absurd h (raise_ne_next _ _ _)

theorem memWrite_next {addr : Word} {v : Byte} {s t : State} {k : State → StepResult} (h : memWrite addr v s k = .next t) :
    ∃ u, busWrite addr v (internal s) = some u ∧ k u = .next t := by
  unfold memWrite at h
  split at h
  · exact ⟨_, ‹_›, h⟩
  · exact absurd h (raise_ne_next _ _ _)

theorem fetch8_next {s t : State} {k : Byte → State → StepResult} (h : fetch8 s k = .next t) :
    ∃ v, busRead s.regs.pc (internal s) = some v ∧ k v ((internal s).setPc (s.regs.pc + 1)) = .next t := by
  obtain ⟨v, hv, hk⟩ := memRead_next h
  exact ⟨v, hv, hk⟩

theorem push16_next {v : Word} {s t : State} {k : State → StepResult} (h : push16 v s k = .next t) :
    ∃ u w, busWrite (s.regs.sp - 1) (hiByte v) (internal (s.setSp (s.regs.sp - 1))) = some u ∧
      busWrite (u.regs.sp - 1) (loByte v) (internal (u.setSp (u.regs.sp - 1))) = some w ∧ k w = .next t := by
  obtain ⟨u, hu, hk⟩ := memWrite_next h
  obtain ⟨w, hw, hk⟩ := memWrite_next hk
  exact ⟨u, w, hu, hw, hk⟩

theorem pop16_next {s t : State} {k : Word → State → StepResult} (h : pop16 s k = .next t) :
    ∃ lo hi, busRead s.regs.sp (internal s) = some lo ∧
      busRead (s.regs.sp + 1) (internal ((internal s).setSp (s.regs.sp + 1))) = some hi ∧
      k (bytesToWord lo hi) ((internal ((internal s).setSp (s.regs.sp + 1))).setSp (s.regs.sp + 1 + 1)) = .next t := by
  obtain ⟨lo, hlo, hk⟩ := memRead_next h
  obtain ⟨hi, hhi, hk⟩ := memRead_next hk
  exact ⟨lo, hi, hlo, hhi, hk⟩

theorem memRead_some {addr : Word} {s : State} {v : Byte} (h : busRead addr (internal s) = some v)
    (k : Byte → State → StepResult) : memRead addr s k = k v (internal s) := by
  simp [memRead, h]

theorem memWrite_some {addr : Word} {v : Byte} {s u : State} (h : busWrite addr v (internal s) = some u)
    (k : State → StepResult) : memWrite addr v s k = k u := by
  simp [memWrite, h]

theorem fetch8_some {s : State} {v : Byte} (h : busRead s.regs.pc (internal s) = some v) (k : Byte → State → StepResult) :
    fetch8 s k = k v (fetched 1 s) := memRead_some h _

/-- An access at an address with no device raises the fault after its four ticks (R302). -/
theorem memRead_unmapped {addr : Word} (h : mapped addr = false) (s : State) (k : Byte → State → StepResult) :
    memRead addr s k = raise (.unmappedAddress addr) (internal s) := by
  simp [memRead, busRead_unmapped h]

theorem memWrite_unmapped {addr : Word} (h : mapped addr = false) (v : Byte) (s : State) (k : State → StepResult) :
    memWrite addr v s k = raise (.unmappedAddress addr) (internal s) := by
  simp [memWrite, busWrite_unmapped h]

/-- A push whose two addresses have devices goes on. -/
theorem push16_mapped {s : State} (v : Word) (h1 : mapped (s.regs.sp - 1) = true) (h2 : mapped (s.regs.sp - 2) = true)
    (k : State → StepResult) :
    ∃ u w, busWrite (s.regs.sp - 1) (hiByte v) (internal (s.setSp (s.regs.sp - 1))) = some u ∧
      busWrite (s.regs.sp - 2) (loByte v) (internal (u.setSp (s.regs.sp - 2))) = some w ∧ push16 v s k = k w := by
  obtain ⟨u, hu⟩ := busWrite_mapped h1 (hiByte v) (internal (s.setSp (s.regs.sp - 1)))
  have hsp : u.regs.sp - 1 = s.regs.sp - 2 := by
    rw [(busWrite_frame hu).1]
    show s.regs.sp - 1 - 1 = s.regs.sp - 2
    bv_omega
  obtain ⟨w, hw⟩ := busWrite_mapped h2 (loByte v) (internal (u.setSp (s.regs.sp - 2)))
  refine ⟨u, w, hu, hw, ?_⟩
  refine (memWrite_some (s := s.setSp (s.regs.sp - 1)) hu _).trans ?_
  show memWrite (u.regs.sp - 1) _ (u.setSp (u.regs.sp - 1)) k = _
  rw [hsp, memWrite_some hw]

/-- A pop whose two addresses have devices goes on. -/
theorem pop16_mapped {s : State} (h1 : mapped s.regs.sp = true) (h2 : mapped (s.regs.sp + 1) = true)
    (k : Word → State → StepResult) :
    ∃ lo hi, busRead s.regs.sp (internal s) = some lo ∧ busRead (s.regs.sp + 1) (internal (internal s)) = some hi ∧
      pop16 s k = k (bytesToWord lo hi) ((internal (internal s)).setSp (s.regs.sp + 2)) := by
  obtain ⟨lo, hlo⟩ := busRead_mapped h1 (internal s)
  obtain ⟨hi, hhi⟩ := busRead_mapped h2 (internal (internal s))
  refine ⟨lo, hi, hlo, hhi, ?_⟩
  have h : busRead (s.regs.sp + 1) (internal ((internal s).setSp (s.regs.sp + 1))) = some hi := hhi
  have hsp : s.regs.sp + 1 + 1 = s.regs.sp + 2 := by bv_omega
  rw [pop16, memRead_some hlo]
  refine (memRead_some (s := (internal s).setSp (s.regs.sp + 1)) h _).trans ?_
  show k _ ((internal (internal s)).setSp (s.regs.sp + 1 + 1)) = _
  rw [hsp]

end Sys2Proof.Machine
end

