-- ==== Sys2Proof/Laws/Rows.lean ====
section
/-! SUPPORT. Every instruction is a row of one shape: a proof about all of them is one case per shape. -/

namespace Sys2Proof.Machine

/-- A property of every row shape is a property of every instruction. -/
theorem forall_rows {P : Instr → Prop}
    (rowLdRegReg : ∀ (dst : Reg8) (src : Reg8), P (Sys2Proof.rowLdRegReg dst src))
    (rowLdRegN8 : ∀ (dst : Reg8) (n : Byte), P (Sys2Proof.rowLdRegN8 dst n))
    (rowLdRegAtHl : ∀ (dst : Reg8), P (Sys2Proof.rowLdRegAtHl dst))
    (rowLdAtHlReg : ∀ (r : Reg8), P (Sys2Proof.rowLdAtHlReg r))
    (rowLdR16N16 : ∀ (p : Reg16) (n : Word), P (Sys2Proof.rowLdR16N16 p n))
    (rowAluReg : ∀ (op : AluOp) (r : Reg8), P (Sys2Proof.rowAluReg op r))
    (rowAluAtHl : ∀ (op : AluOp), P (Sys2Proof.rowAluAtHl op))
    (rowAluN8 : ∀ (op : AluOp) (n : Byte), P (Sys2Proof.rowAluN8 op n))
    (rowIncReg : ∀ (r : Reg8), P (Sys2Proof.rowIncReg r))
    (rowDecReg : ∀ (r : Reg8), P (Sys2Proof.rowDecReg r))
    (rowIncR16 : ∀ (p : Reg16), P (Sys2Proof.rowIncR16 p))
    (rowDecR16 : ∀ (p : Reg16), P (Sys2Proof.rowDecR16 p))
    (rowAddHl : ∀ (p : Reg16), P (Sys2Proof.rowAddHl p))
    (rowPush : ∀ (p : Reg16Stk), P (Sys2Proof.rowPush p))
    (rowPop : ∀ (p : Reg16Stk), P (Sys2Proof.rowPop p))
    (rowJpCc : ∀ (cc : Cond) (n : Word), P (Sys2Proof.rowJpCc cc n))
    (rowJrCc : ∀ (cc : Cond) (n : Byte), P (Sys2Proof.rowJrCc cc n))
    (rowCallCc : ∀ (cc : Cond) (n : Word), P (Sys2Proof.rowCallCc cc n))
    (rowRetCc : ∀ (cc : Cond), P (Sys2Proof.rowRetCc cc))
    (rowRst : ∀ (k : Fin 8), P (Sys2Proof.rowRst k))
    (rowRotReg : ∀ (op : RotOp) (r : Reg8), P (Sys2Proof.rowRotReg op r))
    (rowRotAtHl : ∀ (op : RotOp), P (Sys2Proof.rowRotAtHl op))
    (rowBitReg : ∀ (k : Fin 8) (r : Reg8), P (Sys2Proof.rowBitReg k r))
    (rowBitAtHl : ∀ (k : Fin 8), P (Sys2Proof.rowBitAtHl k))
    (rowResReg : ∀ (k : Fin 8) (r : Reg8), P (Sys2Proof.rowResReg k r))
    (rowResAtHl : ∀ (k : Fin 8), P (Sys2Proof.rowResAtHl k))
    (rowSetReg : ∀ (k : Fin 8) (r : Reg8), P (Sys2Proof.rowSetReg k r))
    (rowSetAtHl : ∀ (k : Fin 8), P (Sys2Proof.rowSetAtHl k))
    (nop : P .nop)
    (ldAtBcA : P .ldAtBcA)
    (rlca : P .rlca)
    (ldAtN16Sp : ∀ n : Word, P (.ldAtN16Sp n))
    (ldAAtBc : P .ldAAtBc)
    (rrca : P .rrca)
    (stop : ∀ n : Byte, P (.stop n))
    (ldAtDeA : P .ldAtDeA)
    (rla : P .rla)
    (jrE8 : ∀ e : Byte, P (.jrE8 e))
    (ldAAtDe : P .ldAAtDe)
    (rra : P .rra)
    (ldAtHliA : P .ldAtHliA)
    (daa : P .daa)
    (ldAAtHli : P .ldAAtHli)
    (cpl : P .cpl)
    (ldAtHldA : P .ldAtHldA)
    (incAtHl : P .incAtHl)
    (decAtHl : P .decAtHl)
    (ldAtHlN8 : ∀ n : Byte, P (.ldAtHlN8 n))
    (scf : P .scf)
    (ldAAtHld : P .ldAAtHld)
    (ccf : P .ccf)
    (halt : P .halt)
    (jpN16 : ∀ n : Word, P (.jpN16 n))
    (ret : P .ret)
    (callN16 : ∀ n : Word, P (.callN16 n))
    (reti : P .reti)
    (ldhAtN8A : ∀ n : Byte, P (.ldhAtN8A n))
    (ldhAtCA : P .ldhAtCA)
    (addSpE8 : ∀ e : Byte, P (.addSpE8 e))
    (jpHl : P .jpHl)
    (ldAtN16A : ∀ n : Word, P (.ldAtN16A n))
    (ldhAAtN8 : ∀ n : Byte, P (.ldhAAtN8 n))
    (ldhAAtC : P .ldhAAtC)
    (di : P .di)
    (ldHlSpE8 : ∀ e : Byte, P (.ldHlSpE8 e))
    (ldSpHl : P .ldSpHl)
    (ldAAtN16 : ∀ n : Word, P (.ldAAtN16 n))
    (ei : P .ei)
    (prefixCb : P .prefixCb)
    (illegal : ∀ (i : Instr) (op : Byte), (i, op) ∈ illegalRows → P i)
    (i : Instr) : P i := by
  cases i with
  | nop => exact nop
  | ldBcN16 n => exact rowLdR16N16 .bc n
  | ldAtBcA => exact ldAtBcA
  | incBc => exact rowIncR16 .bc
  | incB => exact rowIncReg .b
  | decB => exact rowDecReg .b
  | ldBN8 n => exact rowLdRegN8 .b n
  | rlca => exact rlca
  | ldAtN16Sp n => exact ldAtN16Sp n
  | addHlBc => exact rowAddHl .bc
  | ldAAtBc => exact ldAAtBc
  | decBc => exact rowDecR16 .bc
  | incC => exact rowIncReg .c
  | decC => exact rowDecReg .c
  | ldCN8 n => exact rowLdRegN8 .c n
  | rrca => exact rrca
  | stop n => exact stop n
  | ldDeN16 n => exact rowLdR16N16 .de n
  | ldAtDeA => exact ldAtDeA
  | incDe => exact rowIncR16 .de
  | incD => exact rowIncReg .d
  | decD => exact rowDecReg .d
  | ldDN8 n => exact rowLdRegN8 .d n
  | rla => exact rla
  | jrE8 e => exact jrE8 e
  | addHlDe => exact rowAddHl .de
  | ldAAtDe => exact ldAAtDe
  | decDe => exact rowDecR16 .de
  | incE => exact rowIncReg .e
  | decE => exact rowDecReg .e
  | ldEN8 n => exact rowLdRegN8 .e n
  | rra => exact rra
  | jrNzE8 e => exact rowJrCc .nz e
  | ldHlN16 n => exact rowLdR16N16 .hl n
  | ldAtHliA => exact ldAtHliA
  | incHl => exact rowIncR16 .hl
  | incH => exact rowIncReg .h
  | decH => exact rowDecReg .h
  | ldHN8 n => exact rowLdRegN8 .h n
  | daa => exact daa
  | jrZE8 e => exact rowJrCc .z e
  | addHlHl => exact rowAddHl .hl
  | ldAAtHli => exact ldAAtHli
  | decHl => exact rowDecR16 .hl
  | incL => exact rowIncReg .l
  | decL => exact rowDecReg .l
  | ldLN8 n => exact rowLdRegN8 .l n
  | cpl => exact cpl
  | jrNcE8 e => exact rowJrCc .nc e
  | ldSpN16 n => exact rowLdR16N16 .sp n
  | ldAtHldA => exact ldAtHldA
  | incSp => exact rowIncR16 .sp
  | incAtHl => exact incAtHl
  | decAtHl => exact decAtHl
  | ldAtHlN8 n => exact ldAtHlN8 n
  | scf => exact scf
  | jrCE8 e => exact rowJrCc .c e
  | addHlSp => exact rowAddHl .sp
  | ldAAtHld => exact ldAAtHld
  | decSp => exact rowDecR16 .sp
  | incA => exact rowIncReg .a
  | decA => exact rowDecReg .a
  | ldAN8 n => exact rowLdRegN8 .a n
  | ccf => exact ccf
  | ldBB => exact rowLdRegReg .b .b
  | ldBC => exact rowLdRegReg .b .c
  | ldBD => exact rowLdRegReg .b .d
  | ldBE => exact rowLdRegReg .b .e
  | ldBH => exact rowLdRegReg .b .h
  | ldBL => exact rowLdRegReg .b .l
  | ldBAtHl => exact rowLdRegAtHl .b
  | ldBA => exact rowLdRegReg .b .a
  | ldCB => exact rowLdRegReg .c .b
  | ldCC => exact rowLdRegReg .c .c
  | ldCD => exact rowLdRegReg .c .d
  | ldCE => exact rowLdRegReg .c .e
  | ldCH => exact rowLdRegReg .c .h
  | ldCL => exact rowLdRegReg .c .l
  | ldCAtHl => exact rowLdRegAtHl .c
  | ldCA => exact rowLdRegReg .c .a
  | ldDB => exact rowLdRegReg .d .b
  | ldDC => exact rowLdRegReg .d .c
  | ldDD => exact rowLdRegReg .d .d
  | ldDE => exact rowLdRegReg .d .e
  | ldDH => exact rowLdRegReg .d .h
  | ldDL => exact rowLdRegReg .d .l
  | ldDAtHl => exact rowLdRegAtHl .d
  | ldDA => exact rowLdRegReg .d .a
  | ldEB => exact rowLdRegReg .e .b
  | ldEC => exact rowLdRegReg .e .c
  | ldED => exact rowLdRegReg .e .d
  | ldEE => exact rowLdRegReg .e .e
  | ldEH => exact rowLdRegReg .e .h
  | ldEL => exact rowLdRegReg .e .l
  | ldEAtHl => exact rowLdRegAtHl .e
  | ldEA => exact rowLdRegReg .e .a
  | ldHB => exact rowLdRegReg .h .b
  | ldHC => exact rowLdRegReg .h .c
  | ldHD => exact rowLdRegReg .h .d
  | ldHE => exact rowLdRegReg .h .e
  | ldHH => exact rowLdRegReg .h .h
  | ldHL => exact rowLdRegReg .h .l
  | ldHAtHl => exact rowLdRegAtHl .h
  | ldHA => exact rowLdRegReg .h .a
  | ldLB => exact rowLdRegReg .l .b
  | ldLC => exact rowLdRegReg .l .c
  | ldLD => exact rowLdRegReg .l .d
  | ldLE => exact rowLdRegReg .l .e
  | ldLH => exact rowLdRegReg .l .h
  | ldLL => exact rowLdRegReg .l .l
  | ldLAtHl => exact rowLdRegAtHl .l
  | ldLA => exact rowLdRegReg .l .a
  | ldAtHlB => exact rowLdAtHlReg .b
  | ldAtHlC => exact rowLdAtHlReg .c
  | ldAtHlD => exact rowLdAtHlReg .d
  | ldAtHlE => exact rowLdAtHlReg .e
  | ldAtHlH => exact rowLdAtHlReg .h
  | ldAtHlL => exact rowLdAtHlReg .l
  | halt => exact halt
  | ldAtHlA => exact rowLdAtHlReg .a
  | ldAB => exact rowLdRegReg .a .b
  | ldAC => exact rowLdRegReg .a .c
  | ldAD => exact rowLdRegReg .a .d
  | ldAE => exact rowLdRegReg .a .e
  | ldAH => exact rowLdRegReg .a .h
  | ldAL => exact rowLdRegReg .a .l
  | ldAAtHl => exact rowLdRegAtHl .a
  | ldAA => exact rowLdRegReg .a .a
  | addAB => exact rowAluReg .add .b
  | addAC => exact rowAluReg .add .c
  | addAD => exact rowAluReg .add .d
  | addAE => exact rowAluReg .add .e
  | addAH => exact rowAluReg .add .h
  | addAL => exact rowAluReg .add .l
  | addAAtHl => exact rowAluAtHl .add
  | addAA => exact rowAluReg .add .a
  | adcAB => exact rowAluReg .adc .b
  | adcAC => exact rowAluReg .adc .c
  | adcAD => exact rowAluReg .adc .d
  | adcAE => exact rowAluReg .adc .e
  | adcAH => exact rowAluReg .adc .h
  | adcAL => exact rowAluReg .adc .l
  | adcAAtHl => exact rowAluAtHl .adc
  | adcAA => exact rowAluReg .adc .a
  | subAB => exact rowAluReg .sub .b
  | subAC => exact rowAluReg .sub .c
  | subAD => exact rowAluReg .sub .d
  | subAE => exact rowAluReg .sub .e
  | subAH => exact rowAluReg .sub .h
  | subAL => exact rowAluReg .sub .l
  | subAAtHl => exact rowAluAtHl .sub
  | subAA => exact rowAluReg .sub .a
  | sbcAB => exact rowAluReg .sbc .b
  | sbcAC => exact rowAluReg .sbc .c
  | sbcAD => exact rowAluReg .sbc .d
  | sbcAE => exact rowAluReg .sbc .e
  | sbcAH => exact rowAluReg .sbc .h
  | sbcAL => exact rowAluReg .sbc .l
  | sbcAAtHl => exact rowAluAtHl .sbc
  | sbcAA => exact rowAluReg .sbc .a
  | andAB => exact rowAluReg .and .b
  | andAC => exact rowAluReg .and .c
  | andAD => exact rowAluReg .and .d
  | andAE => exact rowAluReg .and .e
  | andAH => exact rowAluReg .and .h
  | andAL => exact rowAluReg .and .l
  | andAAtHl => exact rowAluAtHl .and
  | andAA => exact rowAluReg .and .a
  | xorAB => exact rowAluReg .xor .b
  | xorAC => exact rowAluReg .xor .c
  | xorAD => exact rowAluReg .xor .d
  | xorAE => exact rowAluReg .xor .e
  | xorAH => exact rowAluReg .xor .h
  | xorAL => exact rowAluReg .xor .l
  | xorAAtHl => exact rowAluAtHl .xor
  | xorAA => exact rowAluReg .xor .a
  | orAB => exact rowAluReg .or .b
  | orAC => exact rowAluReg .or .c
  | orAD => exact rowAluReg .or .d
  | orAE => exact rowAluReg .or .e
  | orAH => exact rowAluReg .or .h
  | orAL => exact rowAluReg .or .l
  | orAAtHl => exact rowAluAtHl .or
  | orAA => exact rowAluReg .or .a
  | cpAB => exact rowAluReg .cp .b
  | cpAC => exact rowAluReg .cp .c
  | cpAD => exact rowAluReg .cp .d
  | cpAE => exact rowAluReg .cp .e
  | cpAH => exact rowAluReg .cp .h
  | cpAL => exact rowAluReg .cp .l
  | cpAAtHl => exact rowAluAtHl .cp
  | cpAA => exact rowAluReg .cp .a
  | retNz => exact rowRetCc .nz
  | popBc => exact rowPop .bc
  | jpNzN16 n => exact rowJpCc .nz n
  | jpN16 n => exact jpN16 n
  | callNzN16 n => exact rowCallCc .nz n
  | pushBc => exact rowPush .bc
  | addAN8 n => exact rowAluN8 .add n
  | rst00 => exact rowRst 0
  | retZ => exact rowRetCc .z
  | ret => exact ret
  | jpZN16 n => exact rowJpCc .z n
  | callZN16 n => exact rowCallCc .z n
  | callN16 n => exact callN16 n
  | adcAN8 n => exact rowAluN8 .adc n
  | rst08 => exact rowRst 1
  | retNc => exact rowRetCc .nc
  | popDe => exact rowPop .de
  | jpNcN16 n => exact rowJpCc .nc n
  | callNcN16 n => exact rowCallCc .nc n
  | pushDe => exact rowPush .de
  | subAN8 n => exact rowAluN8 .sub n
  | rst10 => exact rowRst 2
  | retC => exact rowRetCc .c
  | reti => exact reti
  | jpCN16 n => exact rowJpCc .c n
  | callCN16 n => exact rowCallCc .c n
  | sbcAN8 n => exact rowAluN8 .sbc n
  | rst18 => exact rowRst 3
  | ldhAtN8A n => exact ldhAtN8A n
  | popHl => exact rowPop .hl
  | ldhAtCA => exact ldhAtCA
  | pushHl => exact rowPush .hl
  | andAN8 n => exact rowAluN8 .and n
  | rst20 => exact rowRst 4
  | addSpE8 e => exact addSpE8 e
  | jpHl => exact jpHl
  | ldAtN16A n => exact ldAtN16A n
  | xorAN8 n => exact rowAluN8 .xor n
  | rst28 => exact rowRst 5
  | ldhAAtN8 n => exact ldhAAtN8 n
  | popAf => exact rowPop .af
  | ldhAAtC => exact ldhAAtC
  | di => exact di
  | pushAf => exact rowPush .af
  | orAN8 n => exact rowAluN8 .or n
  | rst30 => exact rowRst 6
  | ldHlSpE8 e => exact ldHlSpE8 e
  | ldSpHl => exact ldSpHl
  | ldAAtN16 n => exact ldAAtN16 n
  | ei => exact ei
  | cpAN8 n => exact rowAluN8 .cp n
  | rst38 => exact rowRst 7
  | rlcB => exact rowRotReg .rlc .b
  | rlcC => exact rowRotReg .rlc .c
  | rlcD => exact rowRotReg .rlc .d
  | rlcE => exact rowRotReg .rlc .e
  | rlcH => exact rowRotReg .rlc .h
  | rlcL => exact rowRotReg .rlc .l
  | rlcAtHl => exact rowRotAtHl .rlc
  | rlcA => exact rowRotReg .rlc .a
  | rrcB => exact rowRotReg .rrc .b
  | rrcC => exact rowRotReg .rrc .c
  | rrcD => exact rowRotReg .rrc .d
  | rrcE => exact rowRotReg .rrc .e
  | rrcH => exact rowRotReg .rrc .h
  | rrcL => exact rowRotReg .rrc .l
  | rrcAtHl => exact rowRotAtHl .rrc
  | rrcA => exact rowRotReg .rrc .a
  | rlB => exact rowRotReg .rl .b
  | rlC => exact rowRotReg .rl .c
  | rlD => exact rowRotReg .rl .d
  | rlE => exact rowRotReg .rl .e
  | rlH => exact rowRotReg .rl .h
  | rlL => exact rowRotReg .rl .l
  | rlAtHl => exact rowRotAtHl .rl
  | rlA => exact rowRotReg .rl .a
  | rrB => exact rowRotReg .rr .b
  | rrC => exact rowRotReg .rr .c
  | rrD => exact rowRotReg .rr .d
  | rrE => exact rowRotReg .rr .e
  | rrH => exact rowRotReg .rr .h
  | rrL => exact rowRotReg .rr .l
  | rrAtHl => exact rowRotAtHl .rr
  | rrA => exact rowRotReg .rr .a
  | slaB => exact rowRotReg .sla .b
  | slaC => exact rowRotReg .sla .c
  | slaD => exact rowRotReg .sla .d
  | slaE => exact rowRotReg .sla .e
  | slaH => exact rowRotReg .sla .h
  | slaL => exact rowRotReg .sla .l
  | slaAtHl => exact rowRotAtHl .sla
  | slaA => exact rowRotReg .sla .a
  | sraB => exact rowRotReg .sra .b
  | sraC => exact rowRotReg .sra .c
  | sraD => exact rowRotReg .sra .d
  | sraE => exact rowRotReg .sra .e
  | sraH => exact rowRotReg .sra .h
  | sraL => exact rowRotReg .sra .l
  | sraAtHl => exact rowRotAtHl .sra
  | sraA => exact rowRotReg .sra .a
  | swapB => exact rowRotReg .swap .b
  | swapC => exact rowRotReg .swap .c
  | swapD => exact rowRotReg .swap .d
  | swapE => exact rowRotReg .swap .e
  | swapH => exact rowRotReg .swap .h
  | swapL => exact rowRotReg .swap .l
  | swapAtHl => exact rowRotAtHl .swap
  | swapA => exact rowRotReg .swap .a
  | srlB => exact rowRotReg .srl .b
  | srlC => exact rowRotReg .srl .c
  | srlD => exact rowRotReg .srl .d
  | srlE => exact rowRotReg .srl .e
  | srlH => exact rowRotReg .srl .h
  | srlL => exact rowRotReg .srl .l
  | srlAtHl => exact rowRotAtHl .srl
  | srlA => exact rowRotReg .srl .a
  | bit0B => exact rowBitReg 0 .b
  | bit0C => exact rowBitReg 0 .c
  | bit0D => exact rowBitReg 0 .d
  | bit0E => exact rowBitReg 0 .e
  | bit0H => exact rowBitReg 0 .h
  | bit0L => exact rowBitReg 0 .l
  | bit0AtHl => exact rowBitAtHl 0
  | bit0A => exact rowBitReg 0 .a
  | bit1B => exact rowBitReg 1 .b
  | bit1C => exact rowBitReg 1 .c
  | bit1D => exact rowBitReg 1 .d
  | bit1E => exact rowBitReg 1 .e
  | bit1H => exact rowBitReg 1 .h
  | bit1L => exact rowBitReg 1 .l
  | bit1AtHl => exact rowBitAtHl 1
  | bit1A => exact rowBitReg 1 .a
  | bit2B => exact rowBitReg 2 .b
  | bit2C => exact rowBitReg 2 .c
  | bit2D => exact rowBitReg 2 .d
  | bit2E => exact rowBitReg 2 .e
  | bit2H => exact rowBitReg 2 .h
  | bit2L => exact rowBitReg 2 .l
  | bit2AtHl => exact rowBitAtHl 2
  | bit2A => exact rowBitReg 2 .a
  | bit3B => exact rowBitReg 3 .b
  | bit3C => exact rowBitReg 3 .c
  | bit3D => exact rowBitReg 3 .d
  | bit3E => exact rowBitReg 3 .e
  | bit3H => exact rowBitReg 3 .h
  | bit3L => exact rowBitReg 3 .l
  | bit3AtHl => exact rowBitAtHl 3
  | bit3A => exact rowBitReg 3 .a
  | bit4B => exact rowBitReg 4 .b
  | bit4C => exact rowBitReg 4 .c
  | bit4D => exact rowBitReg 4 .d
  | bit4E => exact rowBitReg 4 .e
  | bit4H => exact rowBitReg 4 .h
  | bit4L => exact rowBitReg 4 .l
  | bit4AtHl => exact rowBitAtHl 4
  | bit4A => exact rowBitReg 4 .a
  | bit5B => exact rowBitReg 5 .b
  | bit5C => exact rowBitReg 5 .c
  | bit5D => exact rowBitReg 5 .d
  | bit5E => exact rowBitReg 5 .e
  | bit5H => exact rowBitReg 5 .h
  | bit5L => exact rowBitReg 5 .l
  | bit5AtHl => exact rowBitAtHl 5
  | bit5A => exact rowBitReg 5 .a
  | bit6B => exact rowBitReg 6 .b
  | bit6C => exact rowBitReg 6 .c
  | bit6D => exact rowBitReg 6 .d
  | bit6E => exact rowBitReg 6 .e
  | bit6H => exact rowBitReg 6 .h
  | bit6L => exact rowBitReg 6 .l
  | bit6AtHl => exact rowBitAtHl 6
  | bit6A => exact rowBitReg 6 .a
  | bit7B => exact rowBitReg 7 .b
  | bit7C => exact rowBitReg 7 .c
  | bit7D => exact rowBitReg 7 .d
  | bit7E => exact rowBitReg 7 .e
  | bit7H => exact rowBitReg 7 .h
  | bit7L => exact rowBitReg 7 .l
  | bit7AtHl => exact rowBitAtHl 7
  | bit7A => exact rowBitReg 7 .a
  | res0B => exact rowResReg 0 .b
  | res0C => exact rowResReg 0 .c
  | res0D => exact rowResReg 0 .d
  | res0E => exact rowResReg 0 .e
  | res0H => exact rowResReg 0 .h
  | res0L => exact rowResReg 0 .l
  | res0AtHl => exact rowResAtHl 0
  | res0A => exact rowResReg 0 .a
  | res1B => exact rowResReg 1 .b
  | res1C => exact rowResReg 1 .c
  | res1D => exact rowResReg 1 .d
  | res1E => exact rowResReg 1 .e
  | res1H => exact rowResReg 1 .h
  | res1L => exact rowResReg 1 .l
  | res1AtHl => exact rowResAtHl 1
  | res1A => exact rowResReg 1 .a
  | res2B => exact rowResReg 2 .b
  | res2C => exact rowResReg 2 .c
  | res2D => exact rowResReg 2 .d
  | res2E => exact rowResReg 2 .e
  | res2H => exact rowResReg 2 .h
  | res2L => exact rowResReg 2 .l
  | res2AtHl => exact rowResAtHl 2
  | res2A => exact rowResReg 2 .a
  | res3B => exact rowResReg 3 .b
  | res3C => exact rowResReg 3 .c
  | res3D => exact rowResReg 3 .d
  | res3E => exact rowResReg 3 .e
  | res3H => exact rowResReg 3 .h
  | res3L => exact rowResReg 3 .l
  | res3AtHl => exact rowResAtHl 3
  | res3A => exact rowResReg 3 .a
  | res4B => exact rowResReg 4 .b
  | res4C => exact rowResReg 4 .c
  | res4D => exact rowResReg 4 .d
  | res4E => exact rowResReg 4 .e
  | res4H => exact rowResReg 4 .h
  | res4L => exact rowResReg 4 .l
  | res4AtHl => exact rowResAtHl 4
  | res4A => exact rowResReg 4 .a
  | res5B => exact rowResReg 5 .b
  | res5C => exact rowResReg 5 .c
  | res5D => exact rowResReg 5 .d
  | res5E => exact rowResReg 5 .e
  | res5H => exact rowResReg 5 .h
  | res5L => exact rowResReg 5 .l
  | res5AtHl => exact rowResAtHl 5
  | res5A => exact rowResReg 5 .a
  | res6B => exact rowResReg 6 .b
  | res6C => exact rowResReg 6 .c
  | res6D => exact rowResReg 6 .d
  | res6E => exact rowResReg 6 .e
  | res6H => exact rowResReg 6 .h
  | res6L => exact rowResReg 6 .l
  | res6AtHl => exact rowResAtHl 6
  | res6A => exact rowResReg 6 .a
  | res7B => exact rowResReg 7 .b
  | res7C => exact rowResReg 7 .c
  | res7D => exact rowResReg 7 .d
  | res7E => exact rowResReg 7 .e
  | res7H => exact rowResReg 7 .h
  | res7L => exact rowResReg 7 .l
  | res7AtHl => exact rowResAtHl 7
  | res7A => exact rowResReg 7 .a
  | set0B => exact rowSetReg 0 .b
  | set0C => exact rowSetReg 0 .c
  | set0D => exact rowSetReg 0 .d
  | set0E => exact rowSetReg 0 .e
  | set0H => exact rowSetReg 0 .h
  | set0L => exact rowSetReg 0 .l
  | set0AtHl => exact rowSetAtHl 0
  | set0A => exact rowSetReg 0 .a
  | set1B => exact rowSetReg 1 .b
  | set1C => exact rowSetReg 1 .c
  | set1D => exact rowSetReg 1 .d
  | set1E => exact rowSetReg 1 .e
  | set1H => exact rowSetReg 1 .h
  | set1L => exact rowSetReg 1 .l
  | set1AtHl => exact rowSetAtHl 1
  | set1A => exact rowSetReg 1 .a
  | set2B => exact rowSetReg 2 .b
  | set2C => exact rowSetReg 2 .c
  | set2D => exact rowSetReg 2 .d
  | set2E => exact rowSetReg 2 .e
  | set2H => exact rowSetReg 2 .h
  | set2L => exact rowSetReg 2 .l
  | set2AtHl => exact rowSetAtHl 2
  | set2A => exact rowSetReg 2 .a
  | set3B => exact rowSetReg 3 .b
  | set3C => exact rowSetReg 3 .c
  | set3D => exact rowSetReg 3 .d
  | set3E => exact rowSetReg 3 .e
  | set3H => exact rowSetReg 3 .h
  | set3L => exact rowSetReg 3 .l
  | set3AtHl => exact rowSetAtHl 3
  | set3A => exact rowSetReg 3 .a
  | set4B => exact rowSetReg 4 .b
  | set4C => exact rowSetReg 4 .c
  | set4D => exact rowSetReg 4 .d
  | set4E => exact rowSetReg 4 .e
  | set4H => exact rowSetReg 4 .h
  | set4L => exact rowSetReg 4 .l
  | set4AtHl => exact rowSetAtHl 4
  | set4A => exact rowSetReg 4 .a
  | set5B => exact rowSetReg 5 .b
  | set5C => exact rowSetReg 5 .c
  | set5D => exact rowSetReg 5 .d
  | set5E => exact rowSetReg 5 .e
  | set5H => exact rowSetReg 5 .h
  | set5L => exact rowSetReg 5 .l
  | set5AtHl => exact rowSetAtHl 5
  | set5A => exact rowSetReg 5 .a
  | set6B => exact rowSetReg 6 .b
  | set6C => exact rowSetReg 6 .c
  | set6D => exact rowSetReg 6 .d
  | set6E => exact rowSetReg 6 .e
  | set6H => exact rowSetReg 6 .h
  | set6L => exact rowSetReg 6 .l
  | set6AtHl => exact rowSetAtHl 6
  | set6A => exact rowSetReg 6 .a
  | set7B => exact rowSetReg 7 .b
  | set7C => exact rowSetReg 7 .c
  | set7D => exact rowSetReg 7 .d
  | set7E => exact rowSetReg 7 .e
  | set7H => exact rowSetReg 7 .h
  | set7L => exact rowSetReg 7 .l
  | set7AtHl => exact rowSetAtHl 7
  | set7A => exact rowSetReg 7 .a
  | prefixCb => exact prefixCb
  | illegalD3 => exact illegal .illegalD3 0xD3 (by decide)
  | illegalDB => exact illegal .illegalDB 0xDB (by decide)
  | illegalDD => exact illegal .illegalDD 0xDD (by decide)
  | illegalE3 => exact illegal .illegalE3 0xE3 (by decide)
  | illegalE4 => exact illegal .illegalE4 0xE4 (by decide)
  | illegalEB => exact illegal .illegalEB 0xEB (by decide)
  | illegalEC => exact illegal .illegalEC 0xEC (by decide)
  | illegalED => exact illegal .illegalED 0xED (by decide)
  | illegalF4 => exact illegal .illegalF4 0xF4 (by decide)
  | illegalFC => exact illegal .illegalFC 0xFC (by decide)
  | illegalFD => exact illegal .illegalFD 0xFD (by decide)

end Sys2Proof.Machine
end

