-- ==== Sys2Proof/Laws/Steps.lean ====
section
/-! SUPPORT. What a step can do, said once, and the closure principle: a property that time, register writes, bus writes and
changes of the control bits keep is kept by every instruction and every step. -/

namespace Sys2Proof.Machine

/-! The bus and time do not look at the registers. -/

theorem busRead_withRegs (addr : Word) (s : State) (g : Regs) : busRead addr { s with regs := g } = busRead addr s := by
  unfold busRead
  cases region addr <;> rfl

theorem busWrite_withRegs (addr : Word) (v : Byte) (s : State) (g : Regs) :
    busWrite addr v { s with regs := g } = (busWrite addr v s).map fun t => { t with regs := g } := by
  unfold busWrite
  cases region addr <;> try rfl
  · simp only [Option.map_some, Option.some.injEq, cartRomWrite]; split <;> rfl
  · simp only [Option.map_some, Option.some.injEq, cartRomWrite]; split <;> rfl
  · simp only [Option.map_some, Option.some.injEq]; show (if s.vramBlocked then _ else _) = _; split <;> rfl
  · simp only [Option.map_some, Option.some.injEq, cartRamWrite]; split <;> rfl
  · simp only [Option.map_some, Option.some.injEq]; show (if s.oamBlocked then _ else _) = _; split <;> rfl

theorem internal_withRegs (s : State) (g : Regs) : internal { s with regs := g } = { internal s with regs := g } := rfl

/-! The stages of a step. -/

theorem priority_eq_none_iff : ∀ p : BitVec 5, priority p = none ↔ p = 0 := by decide +kernel

theorem priority_of_ne_zero {p : BitVec 5} (h : p ≠ 0) : ∃ k, priority p = some k := by
  cases hp : priority p with
  | none => exact absurd ((priority_eq_none_iff p).1 hp) h
  | some k => exact ⟨k, rfl⟩

/-- Stage 2 of R290 in one formula. -/
theorem applyEnable_eq (s : State) : applyEnable s = { s with ime := s.ime || s.imePending, imePending := false } := by
  obtain ⟨regs, ime, imePending, halted, iflag, ie, timer, fault, t, mem, inputs, outputs⟩ := s
  unfold applyEnable
  cases imePending <;> cases ime <;> rfl

theorem step_latched {s : State} {c : FaultCause} (h : s.fault = some c) : step s = stopped c s := by
  unfold step runStep
  rw [h]

/-- A step that dispatches (R290 stage 1). -/
theorem step_dispatch {s : State} {k : IntKind} (h : s.running) (hi : s.ime = true) (hp : priority s.pending = some k) :
    step s = dispatch k { s with halted := false } := by
  unfold step runStep
  split
  · rename_i hf; rw [h] at hf; cases hf
  · simp only [hp, hi, if_true]

/-- A step that idles (R290 stage 3). -/
theorem step_idle {s : State} (h : s.running) (hp : s.pending = 0) (hh : s.halted = true) :
    step s = .next (internal { s with ime := s.ime || s.imePending, imePending := false }) := by
  unfold step runStep
  split
  · rename_i hf; rw [h] at hf; cases hf
  · simp only [(priority_eq_none_iff _).2 hp, applyEnable_eq, hh, if_true]

/-- A step that fetches (R290 stages 2, 4 and 5). -/
theorem step_fetch {s : State} (h : s.willFetch) : step s = fetchAndRun exec s.atFetch := by
  obtain ⟨h1, h2, h3⟩ := h
  unfold step runStep
  split
  · rename_i hf; rw [h1] at hf; cases hf
  · by_cases hz : s.pending = 0
    · have hh := h2 hz
      simp only [(priority_eq_none_iff _).2 hz, applyEnable_eq, hh, Bool.false_eq_true, if_false]
      rw [State.atFetch, ← hh]
    · obtain ⟨k, hk⟩ := priority_of_ne_zero hz
      simp only [hk, h3 hz, applyEnable_eq, Bool.false_eq_true, if_false]
      rw [State.atFetch, h3 hz]

/-- Every step of a running machine is one of the three. -/
theorem step_cases {s : State} (h : s.running) :
    (∃ k, s.ime = true ∧ priority s.pending = some k) ∨ (s.pending = 0 ∧ s.halted = true) ∨ s.willFetch := by
  by_cases hz : s.pending = 0
  · cases hh : s.halted
    · exact .inr (.inr ⟨h, fun _ => hh, fun hn => absurd hz hn⟩)
    · exact .inr (.inl ⟨hz, rfl⟩)
  · cases hi : s.ime
    · exact .inr (.inr ⟨h, fun hn => absurd hn hz, fun _ => hi⟩)
    · obtain ⟨k, hk⟩ := priority_of_ne_zero hz
      exact .inl ⟨k, rfl, hk⟩

theorem fetched_one (s : State) : fetched 1 s = (internal s).setPc (s.regs.pc + 1) := rfl

theorem fetched_succ (n : Nat) (s : State) : fetched n (fetched 1 s) = fetched (n + 1) s := by
  have h : internals n ((internal s).setPc (s.regs.pc + 1)) = (internals n (internal s)).setPc (s.regs.pc + 1) := by
    generalize s.regs.pc + 1 = v
    generalize internal s = u
    induction n generalizing u with
    | zero => rfl
    | succ n ih => exact ih (internal u)
  have hp : s.regs.pc + 1 + BitVec.ofNat 16 n = s.regs.pc + BitVec.ofNat 16 (n + 1) := by
    apply BitVec.eq_of_toNat_eq
    simp only [BitVec.toNat_add, BitVec.toNat_ofNat, show (1 : Word).toNat = 1 from rfl]
    omega
  rw [fetched_one, fetched, h]
  show State.setPc (State.setPc (internals n (internal s)) _) (s.regs.pc + 1 + BitVec.ofNat 16 n) = _
  rw [hp]
  rfl

/-- The lengths of instructions (R95). -/
theorem instrLength_cases : ∀ op : Byte, instrLength op = 1 ∨ instrLength op = 2 ∨ instrLength op = 3 := by decide +kernel

/-- What a fetch and an execution to a next state went through: the bytes, the instruction, and its meaning. -/
theorem fetchAndRun_next {s t : State} (h : fetchAndRun exec s = .next t) :
    ∃ op b1 b2, busRead s.regs.pc (internal s) = some op ∧
      exec (decodeBytes op b1 b2) (fetched (instrLength op) s) = .next t := by
  obtain ⟨op, hop, h⟩ := fetch8_next h
  rcases instrLength_cases op with hl | hl | hl <;> simp only [hl] at h
  · exact ⟨op, 0, 0, hop, by rw [hl]; exact h⟩
  · obtain ⟨b1, _, h⟩ := fetch8_next h
    refine ⟨op, b1, 0, hop, ?_⟩
    rw [hl, ← fetched_succ 1]
    exact h
  · obtain ⟨b1, _, h⟩ := fetch8_next h
    obtain ⟨b2, _, h⟩ := fetch8_next h
    refine ⟨op, b1, b2, hop, ?_⟩
    rw [hl, ← fetched_succ 2, ← fetched_succ 1]
    exact h

/-! The closure principle. -/

/-- A property of states that everything an instruction or a step is made of keeps. A register write keeps F or leaves its low
nibble 0. -/
structure Closed (Q : State → Prop) : Prop where
  internal : ∀ {s}, Q s → Q (internal s)
  regs : ∀ {s} (g : Regs), g.f = s.regs.f ∨ g.f &&& 0x0F = 0 → Q s → Q { s with regs := g }
  write : ∀ {s t addr v}, busWrite addr v s = some t → Q s → Q t
  control : ∀ {s} (ime pend halted : Bool), Q s → Q { s with ime := ime, imePending := pend, halted := halted }
  service : ∀ {s} (p : BitVec 5), Q s → Q { s with iflag := p }

/-- What the rows of the illegal bytes do (R276). -/
theorem exec_illegal {x : Instr × Byte} (hx : x ∈ illegalRows) (s : State) :
    exec x.1 s = raise (.illegalOpcode (s.regs.pc - 1) x.2) s := by
  unfold illegalRows at hx
  fin_cases hx <;> rfl

namespace Closed

variable {Q : State → Prop} (c : Closed Q)
include c

theorem set8 {s : State} (r : Reg8) (v : Byte) (h : Q s) : Q (s.set8 r v) := c.regs _ (.inl (by cases r <;> rfl)) h
theorem set16 {s : State} (p : Reg16) (v : Word) (h : Q s) : Q (s.set16 p v) := c.regs _ (.inl (by cases p <;> rfl)) h
theorem setStk {s : State} (p : Reg16Stk) (v : Word) (h : Q s) : Q (s.setStk p v) := by
  cases p
  · exact c.regs _ (.inl rfl) h
  · exact c.regs _ (.inl rfl) h
  · exact c.regs _ (.inl rfl) h
  · exact c.regs _ (.inr (maskF_low _)) h
theorem setSp {s : State} (v : Word) (h : Q s) : Q (s.setSp v) := c.regs _ (.inl rfl) h
theorem setPc {s : State} (v : Word) (h : Q s) : Q (s.setPc v) := c.regs _ (.inl rfl) h
theorem setFlags {s : State} (z n h cy : Bool) (hs : Q s) : Q (s.setFlags z n h cy) := c.regs _ (.inr (maskF_low _)) hs

/-- A push keeps the property up to what runs after it. -/
theorem push16 {v : Word} {s t : State} {k : State → StepResult} (hs : Q s) (h : push16 v s k = .next t)
    (hk : ∀ w, Q w → k w = .next t → Q t) : Q t := by
  obtain ⟨u, w, hu, hw, h⟩ := push16_next h
  exact hk w (c.write hw (c.internal (c.setSp _ (c.write hu (c.internal (c.setSp _ hs)))))) h

/-- A pop keeps the property up to what runs after it. -/
theorem pop16 {s t : State} {k : Word → State → StepResult} (hs : Q s) (h : pop16 s k = .next t)
    (hk : ∀ v w, Q w → k v w = .next t → Q t) : Q t := by
  obtain ⟨lo, hi, _, _, h⟩ := pop16_next h
  exact hk _ _ (c.setSp _ (c.internal (c.setSp _ (c.internal hs)))) h

theorem call {addr : Word} {s t : State} (hs : Q s) (h : call addr s = .next t) : Q t :=
  c.push16 (c.internal hs) h fun w hw hk => by
    injection hk with hk
    exact hk ▸ c.setPc _ hw

theorem ret {s t : State} (hs : Q s) (h : ret s = .next t) : Q t :=
  c.pop16 hs h fun v w hw hk => by
    injection hk with hk
    exact hk ▸ c.internal (c.setPc _ hw)

theorem jump {addr : Word} {s t : State} (hs : Q s) (h : jump addr s = .next t) : Q t := by
  injection h with h
  exact h ▸ c.internal (c.setPc _ hs)

theorem aluOn {op : AluOp} {v : Byte} {s t : State} (hs : Q s) (h : aluOn op v s = .next t) : Q t := by
  injection h with h
  subst h
  refine c.setFlags _ _ _ _ ?_
  split
  · exact hs
  · exact c.set8 _ _ hs

/-- One read M-cycle, then something that keeps the property. -/
theorem memRead {addr : Word} {s t : State} {k : Byte → State → StepResult} (hs : Q s) (h : memRead addr s k = .next t)
    (hk : ∀ v w, Q w → k v w = .next t → Q t) : Q t := by
  obtain ⟨v, _, h⟩ := memRead_next h
  exact hk v _ (c.internal hs) h

/-- One write M-cycle, then something that keeps the property. -/
theorem memWrite {addr : Word} {v : Byte} {s t : State} {k : State → StepResult} (hs : Q s) (h : memWrite addr v s k = .next t)
    (hk : ∀ w, Q w → k w = .next t → Q t) : Q t := by
  obtain ⟨u, hu, h⟩ := memWrite_next h
  exact hk u (c.write hu (c.internal hs)) h

theorem cbEntry {op2 : Byte} {s t : State} (hs : Q s) (h : runCbEntry op2 s = .next t) : Q t := by
  unfold runCbEntry at h
  simp only at h
  split at h
  · injection h with h; exact h ▸ c.setFlags _ _ _ _ (c.set8 _ _ hs)
  · exact c.memRead hs h fun v w hw h => c.memWrite hw h fun w hw h => by injection h with h; exact h ▸ c.setFlags _ _ _ _ hw
  · injection h with h; exact h ▸ c.setFlags _ _ _ _ hs
  · exact c.memRead hs h fun v w hw h => by injection h with h; exact h ▸ c.setFlags _ _ _ _ hw
  · injection h with h; exact h ▸ c.set8 _ _ hs
  · exact c.memRead hs h fun v w hw h => c.memWrite hw h fun w hw h => by injection h with h; exact h ▸ hw
  · injection h with h; exact h ▸ c.set8 _ _ hs
  · exact c.memRead hs h fun v w hw h => c.memWrite hw h fun w hw h => by injection h with h; exact h ▸ hw

/-- Every instruction keeps the property. -/
theorem exec {i : Instr} {s t : State} (hs : Q s) (h : exec i s = .next t) : Q t := by
  have store : ∀ {addr v}, (Machine.memWrite addr v s fun s => .next s) = .next t → Q t := fun h =>
    c.memWrite hs h fun w hw h => by injection h with h; exact h ▸ hw
  have loadA : ∀ {addr}, Machine.loadA addr s = .next t → Q t := fun h =>
    c.memRead hs h fun v w hw h => by injection h with h; exact h ▸ c.set8 _ _ hw
  have loadAStep : ∀ {d}, Machine.loadAStep d s = .next t → Q t := fun h =>
    c.memRead hs h fun v w hw h => by injection h with h; exact h ▸ c.set16 _ _ (c.set8 _ _ hw)
  have storeAStep : ∀ {d}, Machine.storeAStep d s = .next t → Q t := fun h =>
    c.memWrite hs h fun w hw h => by injection h with h; exact h ▸ c.set16 _ _ hw
  have rotA : ∀ {op}, Machine.rotA op s = .next t → Q t := fun h => by
    injection h with h; exact h ▸ c.setFlags _ _ _ _ (c.set8 _ _ hs)
  induction i using forall_rows with
  | rowLdRegReg => rw [exec_rowLdRegReg] at h; injection h with h; exact h ▸ c.set8 _ _ hs
  | rowLdRegN8 => rw [exec_rowLdRegN8] at h; injection h with h; exact h ▸ c.set8 _ _ hs
  | rowLdRegAtHl =>
    rw [exec_rowLdRegAtHl] at h
    exact c.memRead hs h fun v w hw h => by injection h with h; exact h ▸ c.set8 _ _ hw
  | rowLdAtHlReg => rw [exec_rowLdAtHlReg] at h; exact store h
  | rowLdR16N16 => rw [exec_rowLdR16N16] at h; injection h with h; exact h ▸ c.set16 _ _ hs
  | rowAluReg => rw [exec_rowAluReg] at h; exact c.aluOn hs h
  | rowAluAtHl => rw [exec_rowAluAtHl] at h; exact c.memRead hs h fun v w hw h => c.aluOn hw h
  | rowAluN8 => rw [exec_rowAluN8] at h; exact c.aluOn hs h
  | rowIncReg => rw [exec_rowIncReg] at h; injection h with h; exact h ▸ c.setFlags _ _ _ _ (c.set8 _ _ hs)
  | rowDecReg => rw [exec_rowDecReg] at h; injection h with h; exact h ▸ c.setFlags _ _ _ _ (c.set8 _ _ hs)
  | rowIncR16 => rw [exec_rowIncR16] at h; injection h with h; exact h ▸ c.internal (c.set16 _ _ hs)
  | rowDecR16 => rw [exec_rowDecR16] at h; injection h with h; exact h ▸ c.internal (c.set16 _ _ hs)
  | rowAddHl => rw [exec_rowAddHl] at h; injection h with h; exact h ▸ c.internal (c.setFlags _ _ _ _ (c.set16 _ _ hs))
  | rowPush =>
    rw [exec_rowPush] at h
    exact c.push16 (c.internal hs) h fun w hw h => by injection h with h; exact h ▸ hw
  | rowPop =>
    rw [exec_rowPop] at h
    exact c.pop16 hs h fun v w hw h => by injection h with h; exact h ▸ c.setStk _ _ hw
  | rowJpCc =>
    rw [exec_rowJpCc, jumpIf] at h
    split at h
    · exact c.jump hs h
    · injection h with h; exact h ▸ hs
  | rowJrCc =>
    rw [exec_rowJrCc, jumpRelativeIf] at h
    split at h
    · exact c.jump hs h
    · injection h with h; exact h ▸ hs
  | rowCallCc =>
    rw [exec_rowCallCc, callIf] at h
    split at h
    · exact c.call hs h
    · injection h with h; exact h ▸ hs
  | rowRetCc =>
    rw [exec_rowRetCc, retIf] at h
    split at h
    · exact c.ret (c.internal hs) h
    · injection h with h; exact h ▸ c.internal hs
  | rowRst => rw [exec_rowRst] at h; exact c.call hs h
  | rowRotReg => rw [exec_rowRotReg] at h; injection h with h; exact h ▸ c.setFlags _ _ _ _ (c.set8 _ _ hs)
  | rowRotAtHl =>
    rw [exec_rowRotAtHl] at h
    exact c.memRead hs h fun v w hw h => c.memWrite hw h fun w hw h => by injection h with h; exact h ▸ c.setFlags _ _ _ _ hw
  | rowBitReg => rw [exec_rowBitReg] at h; injection h with h; exact h ▸ c.setFlags _ _ _ _ hs
  | rowBitAtHl =>
    rw [exec_rowBitAtHl] at h
    exact c.memRead hs h fun v w hw h => by injection h with h; exact h ▸ c.setFlags _ _ _ _ hw
  | rowResReg => rw [exec_rowResReg] at h; injection h with h; exact h ▸ c.set8 _ _ hs
  | rowResAtHl =>
    rw [exec_rowResAtHl] at h
    exact c.memRead hs h fun v w hw h => c.memWrite hw h fun w hw h => by injection h with h; exact h ▸ hw
  | rowSetReg => rw [exec_rowSetReg] at h; injection h with h; exact h ▸ c.set8 _ _ hs
  | rowSetAtHl =>
    rw [exec_rowSetAtHl] at h
    exact c.memRead hs h fun v w hw h => c.memWrite hw h fun w hw h => by injection h with h; exact h ▸ hw
  | nop => injection h with h; exact h ▸ hs
  | ldAtBcA => exact store h
  | ldAtDeA => exact store h
  | ldAtN16A => exact store h
  | ldhAtN8A => exact store h
  | ldhAtCA => exact store h
  | ldAtHlN8 => exact store h
  | ldAAtBc => exact loadA h
  | ldAAtDe => exact loadA h
  | ldAAtN16 => exact loadA h
  | ldhAAtN8 => exact loadA h
  | ldhAAtC => exact loadA h
  | ldAAtHli => exact loadAStep h
  | ldAAtHld => exact loadAStep h
  | ldAtHliA => exact storeAStep h
  | ldAtHldA => exact storeAStep h
  | rlca => exact rotA h
  | rrca => exact rotA h
  | rla => exact rotA h
  | rra => exact rotA h
  | ldAtN16Sp =>
    exact c.memWrite hs h fun w hw h => c.memWrite hw h fun w hw h => by injection h with h; exact h ▸ hw
  | ldSpHl => injection h with h; exact h ▸ c.internal (c.setSp _ hs)
  | ldHlSpE8 => injection h with h; exact h ▸ c.internal (c.setFlags _ _ _ _ (c.set16 _ _ hs))
  | addSpE8 => injection h with h; exact h ▸ c.internal (c.internal (c.setFlags _ _ _ _ (c.setSp _ hs)))
  | incAtHl =>
    change incAtHl s = .next t at h
    unfold incAtHl at h
    exact c.memRead hs h fun v w hw h => c.memWrite hw h fun w hw h => by injection h with h; exact h ▸ c.setFlags _ _ _ _ hw
  | decAtHl =>
    change decAtHl s = .next t at h
    unfold decAtHl at h
    exact c.memRead hs h fun v w hw h => c.memWrite hw h fun w hw h => by injection h with h; exact h ▸ c.setFlags _ _ _ _ hw
  | daa => injection h with h; exact h ▸ c.setFlags _ _ _ _ (c.set8 _ _ hs)
  | cpl => injection h with h; exact h ▸ c.setFlags _ _ _ _ (c.set8 _ _ hs)
  | scf => injection h with h; exact h ▸ c.setFlags _ _ _ _ hs
  | ccf => injection h with h; exact h ▸ c.setFlags _ _ _ _ hs
  | stop => injection h with h; exact h ▸ c.control s.ime s.imePending true hs
  | halt => injection h with h; exact h ▸ c.control s.ime s.imePending true hs
  | di => injection h with h; exact h ▸ c.control false false s.halted hs
  | ei => injection h with h; exact h ▸ c.control s.ime true s.halted hs
  | jrE8 => exact c.jump hs h
  | jpN16 => exact c.jump hs h
  | jpHl => injection h with h; exact h ▸ c.setPc _ hs
  | callN16 => exact c.call hs h
  | ret => exact c.ret hs h
  | reti =>
    change returnFromInterrupt s = .next t at h
    unfold returnFromInterrupt at h
    exact c.pop16 hs h fun v w hw h => by
      injection h with h
      exact h ▸ c.control true _ _ (c.internal (c.setPc _ hw))
  | prefixCb =>
    obtain ⟨op2, _, h⟩ := fetch8_next h
    exact c.cbEntry (c.setPc _ (c.internal hs)) h
  | illegal i op hi =>
    exact absurd (exec_illegal hi s ▸ h) (raise_ne_next _ _ _)

theorem fetched {s : State} (n : Nat) (hs : Q s) : Q (fetched n s) := by
  refine c.setPc _ ?_
  induction n generalizing s with
  | zero => exact hs
  | succ n ih => exact ih (c.internal hs)

theorem dispatch {k : IntKind} {s t : State} (hs : Q s) (h : dispatch k s = .next t) : Q t :=
  c.push16 (c.internal (c.internal (c.service _ (c.control false false s.halted hs)))) h fun w hw h => by
    injection h with h
    exact h ▸ c.internal (c.setPc _ hw)

/-- Every step keeps the property. -/
theorem step {s t : State} (hs : Q s) (h : step s = .next t) : Q t := by
  cases hf : s.fault with
  | some cause => rw [step_latched hf] at h; exact absurd h (stopped_ne_next _ _ _)
  | none =>
    rcases step_cases hf with ⟨k, hi, hp⟩ | ⟨hz, hh⟩ | hw
    · rw [step_dispatch hf hi hp] at h
      exact c.dispatch (c.control s.ime s.imePending false hs) h
    · rw [step_idle hf hz hh] at h
      injection h with h
      exact h ▸ c.internal (c.control _ _ s.halted hs)
    · rw [step_fetch hw] at h
      obtain ⟨op, b1, b2, _, h⟩ := fetchAndRun_next h
      exact c.exec (c.fetched _ (c.control _ _ _ hs)) h

end Closed

end Sys2Proof.Machine
end

