-- ==== Sys2Proof/Laws/Frames.lean ====
section
/-! SUPPORT. What the instructions of each shape write and leave, in the terms of Safety: registers, flags, stores, the stack. -/

namespace Sys2Proof.Machine

/-! Registers and flags. -/

/-- A register write keeps the other registers. -/
theorem keeps8_set8 (s : State) (r : Reg8) (v : Byte) : s.keeps8 [r] (s.set8 r v) := by
  intro q hq
  exact get8_set8_other s v (by simpa using hq)

theorem regs_get8 {s w : State} (h : w.regs = s.regs) (r : Reg8) : w.get8 r = s.get8 r := by rw [State.get8, h]; rfl

@[simp] theorem setFlags_flagsOk (s : State) (z n h cy : Bool) : (s.setFlags z n h cy).flagsOk := maskF_low _

/-- What `setFlags` writes (R13, R14). -/
theorem hasFlags_setFlags (s : State) (z n h cy : Bool) : (s.setFlags z n h cy).hasFlags z n h cy :=
  ⟨by simp, by simp, by simp, by simp, setFlags_flagsOk ..⟩

/-- Writing only registers after `k` M-cycles. -/
theorem onlyRegs_withRegs (s : State) (k : Nat) (g : Regs) : s.onlyRegs k { internals k s with regs := g } := by
  have hc := internals_cell k s
  unfold State.onlyRegs
  generalize internals k s = x at *
  exact ⟨rfl, fun a => (cell_congr rfl a).trans (hc a)⟩

/-- A write after `k` M-cycles stores where `State.storesAt` says. -/
theorem storesAt_of_busWrite {s t : State} {k : Nat} {addr : Word} {v : Byte} (h : busWrite addr v (internals k s) = some t) (hc : ∀ a, (internals k s).cell a = s.cell a) :
   s.storesAt k addr t := fun a ha => ((busWrite_cells h).1 a ha).trans (hc a)

/-- The high-page address as a sum (R82). -/
theorem highPage_eq (n : Byte) : highPage n = 0xFF00 + n.setWidth 16 := by
  apply BitVec.eq_of_toNat_eq
  have := n.isLt
  rw [highPage, toNat_bytesToWord]
  simp [BitVec.toNat_add]
  omega

/-! Arithmetic. -/

/-- Every form of an ALU operation runs `aluOn` on its operand. -/
theorem aluForm_exec {op : AluOp} {i : Instr} {v : Byte} {k : Nat} {s : State} (h : aluForm op i v k s) :
    exec i s = aluOn op v (internals k s) := by
  rcases h with ⟨r, rfl, rfl, rfl⟩ | ⟨rfl, rfl⟩ | ⟨rfl, hv, rfl⟩
  · exact exec_rowAluReg ..
  · exact exec_rowAluN8 ..
  · exact (exec_rowAluAtHl ..).trans (memRead_some hv _)

theorem aluForm_le {op : AluOp} {i : Instr} {v : Byte} {k : Nat} {s : State} (h : aluForm op i v k s) : k = 0 ∨ k = 1 := by
  rcases h with ⟨r, rfl, rfl, rfl⟩ | ⟨rfl, rfl⟩ | ⟨rfl, hv, rfl⟩ <;> simp

/-- What an ALU operation leaves, flags and frame, in terms of `aluResult`. -/
theorem aluForm_result {op : AluOp} {i : Instr} {v : Byte} {k : Nat} {s : State} (h : aluForm op i v k s) :
    ∃ t, exec i s = .next t ∧ s.onlyRegs k t ∧
      t.regs.a = (if op = .cp then s.regs.a else (aluResult op s.regs.a v s.cf).res) ∧
      t.hasFlags (aluResult op s.regs.a v s.cf).z (aluResult op s.regs.a v s.cf).n (aluResult op s.regs.a v s.cf).h (aluResult op s.regs.a v s.cf).cy ∧
      s.keeps8 [.a] t ∧ s.keepsSpPc t := by
  rw [aluForm_exec h]
  rcases aluForm_le h with rfl | rfl
  · refine ⟨_, rfl, ⟨?_, fun _ => ?_⟩, ?_, hasFlags_setFlags _ _ _ _ _, ?_, ?_⟩
    · by_cases hc : op = .cp <;> simp only [hc, if_true, if_false] <;> rfl
    · by_cases hc : op = .cp <;> simp only [hc, if_true, if_false] <;> rfl
    · by_cases hc : op = .cp <;> simp only [hc, if_true, if_false] <;> rfl
    · intro r hr; rw [setFlags_get8]; by_cases hc : op = .cp <;> simp only [hc, if_true, if_false]; rfl; exact keeps8_set8 _ _ _ r hr
    · by_cases hc : op = .cp <;> simp only [hc, if_true, if_false] <;> exact ⟨rfl, rfl⟩
  · refine ⟨_, rfl, ⟨?_, fun _ => ?_⟩, ?_, hasFlags_setFlags _ _ _ _ _, ?_, ?_⟩
    · by_cases hc : op = .cp <;> simp only [hc, if_true, if_false] <;> rfl
    · by_cases hc : op = .cp <;> simp only [hc, if_true, if_false] <;> rfl
    · by_cases hc : op = .cp <;> simp only [hc, if_true, if_false] <;> rfl
    · intro r hr; rw [setFlags_get8]; by_cases hc : op = .cp <;> simp only [hc, if_true, if_false]; rfl; exact keeps8_set8 (internal s) _ _ r hr
    · by_cases hc : op = .cp <;> simp only [hc, if_true, if_false] <;> exact ⟨rfl, rfl⟩

theorem byte_eq_zero_iff (x : Byte) : (x == 0) = decide (x.toNat = 0) := by
  rw [Bool.eq_iff_iff, beq_iff_eq, decide_eq_true_eq]
  exact ⟨fun h => by simp [h], fun h => BitVec.eq_of_toNat_eq (by simpa using h)⟩

theorem toNat_ofInt8 (d : Int) : ((BitVec.ofInt 8 d).toNat : Int) = d % 256 := by
  rw [BitVec.toNat_ofInt]; omega

theorem inc_z (v : Byte) : (v + 1 == 0) = decide (v.toNat = 255) := by
  rw [byte_eq_zero_iff, decide_eq_decide, BitVec.toNat_add]
  have := v.isLt
  simp; omega

theorem dec_z (v : Byte) : (v - 1 == 0) = decide (v.toNat = 1) := by
  rw [byte_eq_zero_iff, decide_eq_decide, BitVec.toNat_sub]
  have := v.isLt
  simp; omega

/-- Adding a sign-extended byte is adding its signed value. -/
theorem sext_sum (sp : Word) (e : Byte) : sp + sext8 e = BitVec.ofInt 16 (sp.toNat + e.toInt) := by
  rw [BitVec.ofInt_add]
  congr 1
  simp [BitVec.ofInt_natCast]

/-- The rotates and shifts on numbers (R160). -/
theorem rot_eq (op : RotOp) (v : Byte) (c : Bool) :
    (rotResult op v c).1.toNat = (rotNat op v.toNat c.toNat).1 ∧
    (rotResult op v c).2 = decide ((rotNat op v.toNat c.toNat).2 = 1) := by
  obtain ⟨v⟩ := v
  revert v
  cases op <;> cases c <;> decide +kernel

theorem rot_z (op : RotOp) (v : Byte) (c : Bool) : ((rotResult op v c).1 == 0) = decide ((rotNat op v.toNat c.toNat).1 = 0) := by
  rw [byte_eq_zero_iff, (rot_eq op v c).1]

/-- A bit of a byte on numbers. -/
theorem bit_eq (v : Byte) (b : Fin 8) : (!v.getLsbD b.val) = decide (v.toNat / 2 ^ b.val % 2 = 0) := by
  rw [BitVec.getLsbD, Nat.testBit_eq_decide_div_mod_eq]
  by_cases h : v.toNat / 2 ^ b.val % 2 = 1 <;> simp [h]; omega

/-- The bits of `clearBit` (R192). -/
theorem clearBit_bits (v : Byte) (b j : Fin 8) : (clearBit v b).getLsbD j.val = if j = b then false else v.getLsbD j.val := by
  have h1 : (1 : Byte) <<< b.val = BitVec.twoPow 8 b.val := by fin_cases b <;> rfl
  simp only [clearBit, h1, BitVec.getLsbD_and, BitVec.getLsbD_not, BitVec.getLsbD_twoPow]
  have := b.isLt; have := j.isLt
  by_cases h : j = b
  · simp [h]
  · have : b.val ≠ j.val := fun e => h (Fin.ext e.symm)
    simp [h, this]

/-- The bits of `setBit` (R194). -/
theorem setBit_bits (v : Byte) (b j : Fin 8) : (setBit v b).getLsbD j.val = if j = b then true else v.getLsbD j.val := by
  have h1 : (1 : Byte) <<< b.val = BitVec.twoPow 8 b.val := by fin_cases b <;> rfl
  simp only [setBit, h1, BitVec.getLsbD_or, BitVec.getLsbD_twoPow]
  have := b.isLt; have := j.isLt
  by_cases h : j = b
  · simp [h]
  · have : b.val ≠ j.val := fun e => h (Fin.ext e.symm)
    simp [h, this]

/-- The adjustment of DAA on numbers (R265). -/
def daaAdj (a : Nat) (n h cy : Bool) : Nat :=
  (if h || !n && decide (a % 16 > 9) then 6 else 0) + (if cy || !n && decide (a > 0x99) then 0x60 else 0)

set_option maxRecDepth 10000 in

/-- DAA in terms of the adjustment. -/
theorem daa_eq (a : Byte) (n h cy : Bool) :
    (daaResult a n h cy).1.toNat = (if n then a.toNat + 256 - daaAdj a.toNat n h cy else a.toNat + daaAdj a.toNat n h cy) % 256 ∧
    (daaResult a n h cy).2 = (cy || !n && decide (a.toNat > 0x99)) := by
  obtain ⟨a⟩ := a
  revert a n h cy
  decide +kernel

/-! Control transfer and the stack. -/

/-- The condition of a conditional instruction is what the flags say (R240). -/
theorem cond_iff' (cc : Cond) (s : State) : s.cond cc = true ↔ condHolds cc s := by
  cases cc <;> simp [State.cond, condHolds]

theorem writesCell_withRegs (addr : Word) (s : State) (g : Regs) : writesCell addr { s with regs := g } = writesCell addr s := by
  unfold writesCell
  cases region addr <;> rfl

/-- A push after `k` M-cycles does what `State.pushed` says and then goes on. -/
theorem push16_pushed {s : State} (k : Nat) (v : Word) (h1 : mapped (s.regs.sp - 1) = true) (h2 : mapped (s.regs.sp - 2) = true)
    (f : State → StepResult) :
    ∃ w, s.pushed k v w ∧ push16 v (internals k s) f = f { w with regs := { s.regs with sp := s.regs.sp - 2 } } := by
  obtain ⟨u, hu⟩ := busWrite_mapped h1 (hiByte v) (internals (k + 1) s)
  obtain ⟨w, hw⟩ := busWrite_mapped h2 (loByte v) (internal u)
  refine ⟨w, ⟨u, hu, hw, fun a ha hb => ?_⟩, ?_⟩
  · exact ((busWrite_cells hw).1 a hb).trans (((busWrite_cells hu).1 a ha).trans (internals_cell _ _ _))
  · have hsp : s.regs.sp - 1 - 1 = s.regs.sp - 2 := by bv_omega
    rw [internals_succ] at hu
    have hu' : busWrite (s.regs.sp - 1) (hiByte v) (internal ((internals k s).setSp (s.regs.sp - 1))) = some (u.setSp (s.regs.sp - 1)) := by
      have e : internal ((internals k s).setSp (s.regs.sp - 1)) = { internal (internals k s) with regs := { (internal (internals k s)).regs with sp := s.regs.sp - 1 } } := rfl
      rw [e, busWrite_withRegs, hu, Option.map_some, ← (busWrite_frame hu).1]; rfl
    have hw' : busWrite (s.regs.sp - 2) (loByte v) (internal (u.setSp (s.regs.sp - 2))) = some (w.setSp (s.regs.sp - 2)) := by
      have e : internal (u.setSp (s.regs.sp - 2)) = { internal u with regs := { (internal u).regs with sp := s.regs.sp - 2 } } := rfl
      rw [e, busWrite_withRegs, hw, Option.map_some, ← (busWrite_frame hw).1]; rfl
    unfold push16
    simp only [internals_regs]
    have : (State.setSp (internals k s) (s.regs.sp - 1)).regs.sp = s.regs.sp - 1 := rfl
    rw [this, memWrite_some hu']
    have : (u.setSp (s.regs.sp - 1)).regs.sp - 1 = s.regs.sp - 2 := hsp
    rw [this]
    have : ((u.setSp (s.regs.sp - 1)).setSp (s.regs.sp - 2)) = u.setSp (s.regs.sp - 2) := rfl
    rw [this]
    have : (u.setSp (s.regs.sp - 2)).regs.sp = s.regs.sp - 2 := rfl
    rw [this, memWrite_some hw']
    have hr : w.regs = s.regs := (busWrite_frame hw).1.trans ((busWrite_frame hu).1.trans (internals_regs k s))
    rw [State.setSp, hr]

theorem setSp_setSp_eq {y : State} {g : Regs} (hr : y.regs = g) (v w : Word) :
    (y.setSp v).setSp w = { y with regs := { g with sp := w } } := by subst hr; rfl

/-- A pop of `v` after `k` M-cycles goes on with `v`. -/
theorem pop16_pops {s : State} {k : Nat} {v : Word} (h : s.pops k v) (f : Word → State → StepResult) :
    pop16 (internals k s) f = f v ({ internals (k + 2) s with regs := { s.regs with sp := s.regs.sp + 2 } }) := by
  obtain ⟨hl, hh⟩ := h
  rw [internals_succ] at hl
  rw [internals_succ, internals_succ] at hh
  rw [internals_succ, internals_succ]
  have hr : (internals k s).regs = s.regs := internals_regs k s
  generalize internals k s = x at *
  have hh' : busRead (s.regs.sp + 1) (internal ((internal x).setSp (s.regs.sp + 1))) = some (hiByte v) := by
    rw [internal_setSp, State.setSp, busRead_withRegs]; exact hh
  unfold pop16
  rw [hr, memRead_some hl]
  have e1 : (internal x).regs = s.regs := hr
  simp only [e1]
  have e2 : ((internal x).setSp (s.regs.sp + 1)).regs.sp = s.regs.sp + 1 := rfl
  simp only [e2]
  rw [memRead_some hh', bytesToWord_lo_hi]
  congr 1
  have hr2 : (internal (internal x)).regs = s.regs := (internals_regs 2 x).trans hr
  rw [internal_setSp, show ((internal (internal x)).setSp (s.regs.sp + 1)).regs.sp = s.regs.sp + 1 from rfl,
    show s.regs.sp + 1 + 1 = s.regs.sp + 2 by bv_omega]
  exact setSp_setSp_eq hr2 _ _

/-- A call goes on after its push. -/
theorem call_result {s : State} {target : Word} (h1 : mapped (s.regs.sp - 1) = true) (h2 : mapped (s.regs.sp - 2) = true) :
    ∃ w t, s.pushed 1 s.regs.pc w ∧ call target s = .next t ∧ t = { w with regs := t.regs } ∧ (∀ a, t.cell a = w.cell a) ∧
        t.regs = { s.regs with sp := s.regs.sp - 2, pc := target } := by
  obtain ⟨w, hw, he⟩ := push16_pushed 1 s.regs.pc h1 h2 (fun s => .next (s.setPc target))
  exact ⟨w, _, hw, he, rfl, fun _ => rfl, rfl⟩

/-- A return of `v`. -/
theorem ret_next {s : State} {k : Nat} {v : Word} (h : s.pops k v) :
    ret (internals k s) = .next { internals (k + 3) s with regs := { s.regs with sp := s.regs.sp + 2, pc := v } } := by
  refine (pop16_pops h _).trans ?_
  rw [internals_succ (k + 2)]
  generalize internals (k + 2) s = x
  rfl

/-- A return from a handler of `v`. -/
theorem reti_next {s : State} {k : Nat} {v : Word} (h : s.pops k v) :
    returnFromInterrupt (internals k s) = .next { internals (k + 3) s with regs := { s.regs with sp := s.regs.sp + 2, pc := v }, ime := true } := by
  refine (pop16_pops h _).trans ?_
  rw [internals_succ (k + 2)]
  generalize internals (k + 2) s = x
  rfl

/-- A pop into a pair. -/
theorem pop_result {s : State} {p : Reg16Stk} {v : Word} (h : s.pops 0 v) :
    exec (rowPop p) s = .next (State.setStk { internals 2 s with regs := { s.regs with sp := s.regs.sp + 2 } } p v) := by
  rw [exec_rowPop]; exact pop16_pops h _

/-- A plain store is a cell. -/
theorem plain_writes {s : State} {addr : Word} (h : s.plainStore addr = true) : writesCell addr s = true := by
  unfold State.plainStore at h; unfold writesCell
  cases hr : region addr <;> simp_all

/-- A plain store reads as its cell. -/
theorem plain_reads {s : State} {addr : Word} (h : s.plainStore addr = true) : busRead addr s = some (s.cell (cellOf addr)) := by
  unfold State.plainStore at h; unfold busRead cellOf
  cases hr : region addr <;> simp_all [cartRead]

theorem plain_mapped {s : State} {addr : Word} (h : s.plainStore addr = true) : mapped addr = true := by
  unfold State.plainStore at h; unfold mapped
  cases hr : region addr <;> simp_all

/-- Which addresses are plain stores depends on the inputs alone. -/
theorem plainStore_congr {s t : State} (h : t.inputs = s.inputs) (addr : Word) : t.plainStore addr = s.plainStore addr := by
  unfold State.plainStore; rw [h]

/-- Two neighbouring plain stores are two cells. -/
theorem cellOf_succ_ne {s : State} {a : Word} (h1 : s.plainStore (a + 1) = true) (h2 : s.plainStore a = true) :
    cellOf (a + 1) ≠ cellOf a := by
  unfold State.plainStore at h1 h2
  unfold cellOf
  have ha : (a + 1).toNat = (a.toNat + 1) % 65536 := by simp [BitVec.toNat_add]
  have := a.isLt
  cases hr : region (a + 1) <;> cases hr' : region a <;> simp [hr, hr'] at h1 h2 <;>
    have b1 := region_bounds hr <;> have b2 := region_bounds hr' <;> simp only at b1 b2 <;> simp <;> omega

/-- After a push into plain stores a pop gives the word pushed. -/
theorem push_pops {s : State} {v : Word} {w : State} (hp : s.pushed 1 v w)
    (h1 : s.plainStore (s.regs.sp - 1) = true) (h2 : s.plainStore (s.regs.sp - 2) = true) :
    State.pops { w with regs := { s.regs with sp := s.regs.sp - 2 } } 0 v := by
  obtain ⟨u, hu, hw, -⟩ := hp
  have e1 : s.regs.sp - 2 + 1 = s.regs.sp - 1 := by bv_omega
  have iu : (internal u).inputs = s.inputs := (busWrite_frame hu).2.2.2.2.2.2.trans (internals_inputs ..)
  have iw : w.inputs = s.inputs := (busWrite_frame hw).2.2.2.2.2.2.trans iu
  have p1 {x : State} (hx : x.inputs = s.inputs) := (plainStore_congr hx _).trans h1
  have p2 {x : State} (hx : x.inputs = s.inputs) := (plainStore_congr hx _).trans h2
  rw [busWrite_cell _ (plain_writes (p1 (internals_inputs ..))), Option.some.injEq] at hu
  rw [busWrite_cell _ (plain_writes (p2 iu)), Option.some.injEq] at hw
  have hne : cellOf (s.regs.sp - 1) ≠ cellOf (s.regs.sp - 2) := by
    rw [← e1]; exact cellOf_succ_ne (by rw [e1]; exact h1) h2
  have iv (k : Nat) : (internals k { w with regs := { s.regs with sp := s.regs.sp - 2 } }).inputs = s.inputs :=
    (internals_inputs ..).trans iw
  constructor
  · refine (plain_reads (p2 (iv _))).trans ?_
    rw [internals_cell]
    show some (w.cell _) = _
    rw [← hw, cell_setCell_same]
  · show busRead (s.regs.sp - 2 + 1) _ = _
    rw [e1]
    refine (plain_reads (p1 (iv _))).trans ?_
    rw [internals_cell]
    show some (w.cell _) = _
    rw [← hw, cell_setCell_other _ _ hne, internal_cell, ← hu, cell_setCell_same]

/-! Accesses without a device. -/

/-- Raising UnmappedAddress where no fault is latched. -/
theorem raise_unmapped {s : State} (h : s.fault = none) (a : Word) : raise (.unmappedAddress a) s = unmappedAt a s := by
  unfold raise; rw [h]; rfl

/-- A read without a device (R302). -/
theorem memRead_unmappedAt {s : State} (h : s.fault = none) {a : Word} (hm : mapped a = false) (k) : memRead a s k = unmappedAt a (internal s) := by
  rw [memRead_unmapped hm, raise_unmapped (by exact h)]

/-- A write without a device (R302). -/
theorem memWrite_unmappedAt {s : State} (h : s.fault = none) {a : Word} (hm : mapped a = false) (v k) : memWrite a v s k = unmappedAt a (internal s) := by
  rw [memWrite_unmapped hm, raise_unmapped (by exact h)]

/-- A push whose first write has no device (R303). -/
theorem push16_first_unmapped {s : State} (h : s.fault = none) (v : Word) (hm : mapped (s.regs.sp - 1) = false) (k) :
    push16 v s k = unmappedAt (s.regs.sp - 1) { internal s with regs := { s.regs with sp := s.regs.sp - 1 } } := by
  unfold push16
  exact memWrite_unmappedAt (s := s.setSp (s.regs.sp - 1)) h hm _ _

/-- A push whose second write has no device (R303). -/
theorem push16_second_unmapped {s u : State} (h : s.fault = none) (v : Word) (hu : busWrite (s.regs.sp - 1) (hiByte v) (internal s) = some u) (hm : mapped (s.regs.sp - 2) = false) (k) :
    push16 v s k = unmappedAt (s.regs.sp - 2) { internal u with regs := { s.regs with sp := s.regs.sp - 2 } } := by
  have hsp : s.regs.sp - 1 - 1 = s.regs.sp - 2 := by bv_omega
  have hf := busWrite_frame hu
  have hu' : busWrite (s.regs.sp - 1) (hiByte v) (internal (s.setSp (s.regs.sp - 1))) = some (u.setSp (s.regs.sp - 1)) := by
    have e : internal (s.setSp (s.regs.sp - 1)) = { internal s with regs := { (internal s).regs with sp := s.regs.sp - 1 } } := rfl
    rw [e, busWrite_withRegs, hu, Option.map_some, ← hf.1]; rfl
  unfold push16
  have : (State.setSp s (s.regs.sp - 1)).regs.sp = s.regs.sp - 1 := rfl
  simp only
  rw [this, memWrite_some hu']
  have : (u.setSp (s.regs.sp - 1)).regs.sp - 1 = s.regs.sp - 2 := hsp
  rw [this]
  have : ((u.setSp (s.regs.sp - 1)).setSp (s.regs.sp - 2)) = u.setSp (s.regs.sp - 2) := rfl
  rw [this]
  have hr : u.regs = s.regs := hf.1
  have hfa : u.fault = none := hf.2.2.2.2.1.trans h
  have := memWrite_unmappedAt (s := u.setSp (s.regs.sp - 2)) hfa hm (loByte v) k
  refine this.trans ?_
  rw [internal_setSp, State.setSp, internal_regs, hr]

/-- A pop whose first read has no device (R303). -/
theorem pop16_first_unmapped {s : State} (h : s.fault = none) (hm : mapped s.regs.sp = false) (k) : pop16 s k = unmappedAt s.regs.sp (internal s) := memRead_unmappedAt h hm _

/-- A pop whose second read has no device (R303). -/
theorem pop16_second_unmapped {s : State} (h : s.fault = none) (h1 : mapped s.regs.sp = true) (hm : mapped (s.regs.sp + 1) = false) (k) :
    pop16 s k = unmappedAt (s.regs.sp + 1) { internal (internal s) with regs := { s.regs with sp := s.regs.sp + 1 } } := by
  obtain ⟨v, hv⟩ := busRead_mapped h1 (internal s)
  unfold pop16
  rw [memRead_some hv]
  exact memRead_unmappedAt (s := (internal s).setSp (s.regs.sp + 1)) h hm _

/-- A fetch without a device: PC stays at it (R294, R303). -/
theorem fetch8_unmapped {s : State} (h : s.fault = none) (hm : mapped s.regs.pc = false) (k : Byte → State → StepResult) :
    fetch8 s k = unmappedAt s.regs.pc (internal s) := memRead_unmappedAt h hm _

/-- The first byte of a well-formed instruction gives the number of its bytes (R95). -/
theorem encode_head (i : Instr) (hw : i.wellFormed = true) : ∃ op bs, encode i = op :: bs ∧ instrLength op = bs.length + 1 := by
  cases i <;> first
    | exact ⟨_, _, rfl, rfl⟩
    | exact absurd hw (by decide)

/-- A schedule answers with the first entry listed for the T-cycle. -/
theorem scheduleAt_eq_find {α : Type} (l : List (Nat × α)) (t : Nat) : scheduleAt l t = (l.find? fun e => e.1 == t).map Prod.snd := by
  induction l with
  | nil => rfl
  | cons x l ih =>
    obtain ⟨k, v⟩ := x
    by_cases h : t = k
    · simp [scheduleAt, List.find?, h]
    · rw [scheduleAt, if_neg h, ih, List.find?_cons_of_neg (by simpa using fun e => h e.symm)]

/-! The address map. -/

/-- An address in the bounds of a range that holds cells, or of the unusable one, falls in that range (R41). -/
theorem region_of_bounds {addr : Word} {lo hi : Nat} {r : Region}
    (hr : (lo, hi, r) ∈ [(0x8000, 0xA000, Region.vram), (0xA000, 0xC000, .cartRam), (0xC000, 0xE000, .wram), (0xE000, 0xFE00, .echo),
      (0xFE00, 0xFEA0, .oam), (0xFEA0, 0xFF00, .unusable), (0xFF80, 0xFFFF, .hram)])
    (h1 : lo ≤ addr.toNat) (h2 : addr.toNat < hi) : region addr = r := by
  unfold region
  generalize addr.toNat = a at *
  fin_cases hr <;> simp only at h1 h2 ⊢ <;> grind (splits := 40)

/-- The two ranges of cartridge ROM. -/
theorem region_rom {addr : Word} (h : addr.toNat < 0x8000) : region addr = .rom0 ∨ region addr = .romX := by
  unfold region; simp only; grind

/-- The joypad and serial registers (R50). -/
theorem region_joypadSerial {addr : Word} : region addr = .joypadSerial ↔ 0xFF00 ≤ addr.toNat ∧ addr.toNat ≤ 0xFF02 := by
  have hl := addr.isLt
  unfold region
  generalize addr.toNat = a at *
  grind (splits := 40)

/-- The PPU registers (R54). -/
theorem region_ppuRegs {addr : Word} : region addr = .ppuRegs ↔ 0xFF40 ≤ addr.toNat ∧ addr.toNat ≤ 0xFF4B := by
  have hl := addr.isLt
  unfold region
  generalize addr.toNat = a at *
  grind (splits := 40)

theorem region_vram {addr : Word} (h1 : 0x8000 ≤ addr.toNat) (h2 : addr.toNat < 0xA000) : region addr = .vram :=
  region_of_bounds (by simp) h1 h2

theorem region_cartRam {addr : Word} (h1 : 0xA000 ≤ addr.toNat) (h2 : addr.toNat < 0xC000) : region addr = .cartRam :=
  region_of_bounds (by simp) h1 h2

theorem region_wram {addr : Word} (h1 : 0xC000 ≤ addr.toNat) (h2 : addr.toNat < 0xE000) : region addr = .wram :=
  region_of_bounds (by simp) h1 h2

theorem region_echo {addr : Word} (h1 : 0xE000 ≤ addr.toNat) (h2 : addr.toNat < 0xFE00) : region addr = .echo :=
  region_of_bounds (by simp) h1 h2

theorem region_oam {addr : Word} (h1 : 0xFE00 ≤ addr.toNat) (h2 : addr.toNat < 0xFEA0) : region addr = .oam :=
  region_of_bounds (by simp) h1 h2

theorem region_unusable {addr : Word} (h1 : 0xFEA0 ≤ addr.toNat) (h2 : addr.toNat < 0xFF00) : region addr = .unusable :=
  region_of_bounds (by simp) h1 h2

theorem region_hram {addr : Word} (h1 : 0xFF80 ≤ addr.toNat) (h2 : addr.toNat < 0xFFFF) : region addr = .hram :=
  region_of_bounds (by simp) h1 h2

/-! The CB table. -/

/-- The CB table's entry is the meaning of the instruction that the second byte decodes to (R92, R275). -/
theorem cb_entry : ∀ (op2 : Byte) (s : State), exec (decodeCb op2) s = runCbEntry op2 s := by
  intro op2 s
  unfold decodeCb runCbEntry
  simp only
  split <;> simp_all

end Sys2Proof.Machine
end

