-- ==== Sys2Proof/Laws/Closures.lean ====
section
/-! SUPPORT. Decoding and fetching, the properties that every step keeps by the closure principle, and who raises IllegalOpcode. -/

namespace Sys2Proof.Machine

/-! Bytes. -/

theorem len2 : ∀ op : Byte, instrLength op = 2 → op = 0xCB ∨ op ∈ ([0x06, 0x0E, 0x10, 0x16, 0x18, 0x1E, 0x20, 0x26, 0x28, 0x2E, 0x30, 0x36, 0x38, 0x3E, 0xC6, 0xCE, 0xD6, 0xDE, 0xE0, 0xE6, 0xE8, 0xEE, 0xF0, 0xF6, 0xF8, 0xFE] : List Byte) := by decide +kernel

theorem len3 : ∀ op : Byte, instrLength op = 3 → op ∈ ([0x01, 0x08, 0x11, 0x21, 0x31, 0xC2, 0xC3, 0xC4, 0xCA, 0xCC, 0xCD, 0xD2, 0xD4, 0xDA, 0xDC, 0xEA, 0xFA] : List Byte) := by decide +kernel

theorem len1 : ∀ op : Byte, instrLength op = 1 → (decodeBytes op 0 0).wellFormed = true ∧ encode (decodeBytes op 0 0) = [op] := by decide +kernel

theorem lenCb : ∀ op2 : Byte, (decodeBytes 0xCB op2 0).wellFormed = true ∧ encode (decodeBytes 0xCB op2 0) = [0xCB, op2] := by decide +kernel

/-- A two-byte decoding gives back its bytes. -/
theorem dec2 (op b1 : Byte) (h : instrLength op = 2) : (decodeBytes op b1 0).wellFormed = true ∧ encode (decodeBytes op b1 0) = [op, b1] := by
  rcases len2 op h with rfl | h
  · exact lenCb b1
  · fin_cases h <;> exact ⟨rfl, rfl⟩

/-- A three-byte decoding gives back its bytes. -/
theorem dec3 (op b1 b2 : Byte) (h : instrLength op = 3) : (decodeBytes op b1 b2).wellFormed = true ∧ encode (decodeBytes op b1 b2) = [op, b1, b2] := by
  have hx (b1 b2 : Byte) : [op, loByte (bytesToWord b1 b2), hiByte (bytesToWord b1 b2)] = [op, b1, b2] := by simp
  have := len3 op h
  fin_cases this <;> exact ⟨rfl, hx b1 b2⟩

theorem encode_ne_nil (i : Instr) : encode i ≠ [] := by cases i <;> exact List.cons_ne_nil _ _

/-- A fetch of an instruction's bytes runs that instruction. -/
theorem fetchAndRun_bytes {s : State} {op : Byte} {bs : List Byte} {i : Instr} (h : fetches (op :: bs) s)
    (hl : instrLength op = (op :: bs).length) (hd : ∀ r, decode (op :: bs ++ r) = .ok (i, r)) :
    fetchAndRun exec s = exec i (fetched (op :: bs).length s) := by
  obtain ⟨h0, h⟩ := h
  unfold fetchAndRun
  rw [fetch8_some h0]
  have hd := hd []
  match bs, hl, hd, h with
  | [], hl, hd, h =>
    simp only [hl, List.length_cons, List.length_nil]
    simp only [decode, hl, List.length_cons, List.length_nil, List.cons_append, List.nil_append, Except.ok.injEq, Prod.mk.injEq] at hd
    rw [hd.1]
  | [b1], hl, hd, h =>
    simp only [hl, List.length_cons, List.length_nil]
    simp only [decode, hl, List.length_cons, List.length_nil, List.cons_append, List.nil_append, Except.ok.injEq, Prod.mk.injEq] at hd
    rw [fetch8_some h.1, fetched_succ, hd.1]
  | [b1, b2], hl, hd, h =>
    simp only [hl, List.length_cons, List.length_nil]
    simp only [decode, hl, List.length_cons, List.length_nil, List.cons_append, List.nil_append, Except.ok.injEq, Prod.mk.injEq] at hd
    rw [fetch8_some h.1, fetch8_some h.2.1, fetched_succ, fetched_succ, hd.1]
  | b1 :: b2 :: b3 :: bs, hl, hd, h =>
    exfalso
    rcases instrLength_cases op with e | e | e <;> rw [e] at hl <;> simp at hl

/-! Interrupts. -/

/-- The lowest-numbered set bit (R313). -/
theorem priority_some_iff : ∀ (p : BitVec 5) (k : IntKind), priority p = some k ↔ p.getLsbD k.num = true ∧ ∀ j < k.num, p.getLsbD j = false := by
  intro p k; revert p; cases k <;> decide +kernel

/-- A pending request ends the halted state (R316). -/
theorem wake {s : State} (hr : s.running) (hp : s.pending ≠ 0) : step s = step { s with halted := false } := by
  obtain ⟨k, hk⟩ := priority_of_ne_zero hp
  rcases (Bool.eq_false_or_eq_true s.ime).symm with hi | hi
  · exact (step_fetch (s := s) ⟨hr, fun h => absurd h hp, fun _ => hi⟩).trans (step_fetch (s := { s with halted := false }) ⟨hr, fun h => absurd h hp, fun _ => hi⟩).symm
  · exact (step_dispatch hr hi hk).trans (step_dispatch (s := { s with halted := false }) hr hi hk).symm

/-! Closed properties. -/

/-- Nothing an instruction is made of latches a fault and goes on. -/
theorem closed_fault : Closed (fun s => s.fault = none) where
  internal h := h
  regs _ _ h := h
  write h hs := (busWrite_frame h).2.2.2.2.1.trans hs
  control _ _ _ h := h
  service _ h := h

theorem step_next_running {s t : State} (h : step s = .next t) : s.fault = none := by
  cases hf : s.fault with
  | some cause => rw [step_latched hf] at h; exact absurd h (stopped_ne_next _ _ _)
  | none => rfl

/-- F's low nibble stays 0 (R13). -/
theorem closed_flags : Closed State.flagsOk where
  internal h := h
  regs g hg h := by
    rcases hg with e | e
    · show g.f &&& 0x0F = 0; rw [e]; exact h
    · exact e
  write h hs := by rw [State.flagsOk, (busWrite_frame h).1]; exact hs
  control _ _ _ h := h
  service _ h := h

/-- The timer's constraint is kept (R28). -/
theorem closed_timer : Closed (fun s => s.timer.ok) where
  internal h := internal_timer_ok _ h
  regs _ _ h := h
  write h hs := busWrite_timer_ok h hs
  control _ _ _ h := h
  service _ h := h

/-- The canonical form of memory is kept (log entry 3). -/
theorem closed_wf : Closed (fun s => s.mem.wf = true) where
  internal h := h
  regs _ _ h := h
  write h hs := busWrite_wf h hs
  control _ _ _ h := h
  service _ h := h

/-- The divider's phase is kept at M-cycle boundaries (R338). -/
theorem closed_phase : Closed State.phaseOk where
  internal h := by
    rw [State.phaseOk, internal_div, BitVec.toNat_add]; 
    have h : _ % 4 = 0 := h
    simp only [show (4 : Word).toNat = 4 from rfl]
    omega
  regs _ _ h := h
  write h hs := by
    rcases busWrite_div h with e | e
    · rw [State.phaseOk, e]; exact hs
    · rw [State.phaseOk, e]; rfl
  control _ _ _ h := h
  service _ h := h

/-- The cells of cartridge ROM are never written (log entry 4). -/
theorem closed_rom : ∀ s0 : State, Closed (fun s => ∀ a, a < 0x8000 → s.cell a = s0.cell a) := fun s0 => {
  internal := fun h => h
  regs := fun _ _ h => h
  write := by
    intro s t addr v h hs a ha
    refine ((busWrite_cells h).1 a fun hw e => ?_).trans (hs a ha)
    have : 0x8000 ≤ cellOf addr := by
      unfold writesCell at hw; unfold cellOf
      cases hr : region addr <;> simp [hr] at hw <;> have hb := region_bounds hr <;> simp only at hb <;> simp <;> omega
    omega
  control := fun _ _ _ h => h
  service := fun _ h => h }

/-- The inputs never change. -/
theorem closed_inputs (x : Inputs) : Closed (fun s => s.inputs = x) where
  internal h := h
  regs _ _ h := h
  write h hs := (busWrite_frame h).2.2.2.2.2.2.trans hs
  control _ _ _ h := h
  service _ h := h

/-- No output event is taken back. -/
theorem closed_outputs (x : List OutputEvent) : Closed (fun s => x <:+ s.outputs) where
  internal h := h
  regs _ _ h := h
  write h hs := hs.trans (busWrite_outputs h)
  control _ _ _ h := h
  service _ h := h

/-! IllegalOpcode. -/

/-- `r` does not raise IllegalOpcode. -/
def noIll (r : StepResult) : Prop := ∀ a o f, r ≠ .fault (.illegalOpcode a o f)

theorem noIll_next (s : State) : noIll (.next s) := fun _ _ _ h => nomatch h

theorem noIll_memRead {addr : Word} {s : State} {k : Byte → State → StepResult} (hs : s.fault = none)
    (hk : ∀ v, noIll (k v (internal s))) : noIll (memRead addr s k) := by
  unfold memRead
  split
  · exact hk _
  · unfold raise; rw [show (internal s).fault = none from hs]; exact fun _ _ _ h => nomatch h

theorem noIll_memWrite {addr : Word} {v : Byte} {s : State} {k : State → StepResult} (hs : s.fault = none)
    (hk : ∀ t, t.fault = none → noIll (k t)) : noIll (memWrite addr v s k) := by
  unfold memWrite
  split
  · rename_i h; exact hk _ ((busWrite_frame h).2.2.2.2.1.trans hs)
  · unfold raise; rw [show (internal s).fault = none from hs]; exact fun _ _ _ h => nomatch h

theorem noIll_push16 {v : Word} {s : State} {k : State → StepResult} (hs : s.fault = none)
    (hk : ∀ t, noIll (k t)) : noIll (push16 v s k) :=
  noIll_memWrite hs fun _ ht => noIll_memWrite ht fun u _ => hk u

theorem noIll_pop16 {s : State} {k : Word → State → StepResult} (hs : s.fault = none)
    (hk : ∀ v t, noIll (k v t)) : noIll (pop16 s k) :=
  noIll_memRead hs fun _ => noIll_memRead (s := (internal s).setSp _) hs fun _ => hk _ _

theorem noIll_call {a : Word} {s : State} (hs : s.fault = none) : noIll (call a s) :=
  noIll_push16 (s := internal s) hs fun _ => noIll_next _

theorem noIll_ret {s : State} (hs : s.fault = none) : noIll (ret s) := noIll_pop16 hs fun _ _ => noIll_next _

theorem noIll_cb (op2 : Byte) {s : State} (hs : s.fault = none) : noIll (runCbEntry op2 s) := by
  unfold runCbEntry
  simp only
  split
  all_goals first
    | exact noIll_next _
    | exact noIll_memRead hs fun _ => noIll_next _
    | exact noIll_memRead hs fun _ => noIll_memWrite (s := internal s) hs fun _ _ => noIll_next _

/-- Only the illegal rows raise IllegalOpcode (R301). -/
theorem noIll_exec (i : Instr) {s : State} (hs : s.fault = none) : noIll (exec i s) ∨ i ∈ illegalRows.map Prod.fst := by
  induction i using forall_rows
  case illegal i op hi => exact .inr (List.mem_map.2 ⟨_, hi, rfl⟩)
  all_goals refine .inl ?_
  all_goals try simp only [exec_rowLdRegReg, exec_rowLdRegN8, exec_rowLdRegAtHl, exec_rowLdAtHlReg, exec_rowLdR16N16, exec_rowAluReg,
    exec_rowAluAtHl, exec_rowAluN8, exec_rowIncReg, exec_rowDecReg, exec_rowIncR16, exec_rowDecR16, exec_rowAddHl, exec_rowPush,
    exec_rowPop, exec_rowJpCc, exec_rowJrCc, exec_rowCallCc, exec_rowRetCc, exec_rowRst, exec_rowRotReg, exec_rowRotAtHl,
    exec_rowBitReg, exec_rowBitAtHl, exec_rowResReg, exec_rowResAtHl, exec_rowSetReg, exec_rowSetAtHl]
  case prefixCb =>
    show noIll (memRead s.regs.pc s fun v s => runCbEntry v (s.setPc _))
    exact noIll_memRead hs fun v => noIll_cb v (s := (internal s).setPc _) hs
  case rowJpCc => unfold jumpIf; split <;> exact noIll_next _
  case rowJrCc => unfold jumpRelativeIf; split <;> exact noIll_next _
  case rowCallCc => unfold callIf; split; exact noIll_call hs; exact noIll_next _
  case rowRetCc => unfold retIf; split; exact noIll_ret (s := internal s) hs; exact noIll_next _
  case ldAtN16Sp => exact noIll_memWrite hs fun _ ht => noIll_memWrite ht fun _ _ => noIll_next _
  case rowRotAtHl => unfold rotAtHl; exact noIll_memRead hs fun _ => noIll_memWrite (s := internal s) hs fun _ _ => noIll_next _
  case rowResAtHl => unfold resAtHl; exact noIll_memRead hs fun _ => noIll_memWrite (s := internal s) hs fun _ _ => noIll_next _
  case rowSetAtHl => unfold setAtHl; exact noIll_memRead hs fun _ => noIll_memWrite (s := internal s) hs fun _ _ => noIll_next _
  case incAtHl => show noIll (incAtHl s); unfold incAtHl; exact noIll_memRead hs fun _ => noIll_memWrite (s := internal s) hs fun _ _ => noIll_next _
  case decAtHl => show noIll (decAtHl s); unfold decAtHl; exact noIll_memRead hs fun _ => noIll_memWrite (s := internal s) hs fun _ _ => noIll_next _
  case rowLdRegAtHl => unfold loadRegAtHl; exact noIll_memRead hs fun _ => noIll_next _
  case rowBitAtHl => unfold bitAtHl; exact noIll_memRead hs fun _ => noIll_next _
  case rowAluAtHl => unfold aluAtHl; exact noIll_memRead hs fun _ => noIll_next _
  case rowLdAtHlReg => unfold storeAtHl; exact noIll_memWrite hs fun _ _ => noIll_next _
  case ldAtHlN8 n => show noIll (storeAtHl n s); unfold storeAtHl; exact noIll_memWrite hs fun _ _ => noIll_next _
  case ldAAtBc => show noIll (loadA _ s); unfold loadA; exact noIll_memRead hs fun _ => noIll_next _
  case ldAAtDe => show noIll (loadA _ s); unfold loadA; exact noIll_memRead hs fun _ => noIll_next _
  case ldAAtN16 => show noIll (loadA _ s); unfold loadA; exact noIll_memRead hs fun _ => noIll_next _
  case ldhAAtN8 => show noIll (loadA _ s); unfold loadA; exact noIll_memRead hs fun _ => noIll_next _
  case ldhAAtC => show noIll (loadA _ s); unfold loadA; exact noIll_memRead hs fun _ => noIll_next _
  case ldAAtHli => show noIll (loadAStep _ s); unfold loadAStep; exact noIll_memRead hs fun _ => noIll_next _
  case ldAAtHld => show noIll (loadAStep _ s); unfold loadAStep; exact noIll_memRead hs fun _ => noIll_next _
  case ldAtBcA => show noIll (storeA _ s); unfold storeA; exact noIll_memWrite hs fun _ _ => noIll_next _
  case ldAtDeA => show noIll (storeA _ s); unfold storeA; exact noIll_memWrite hs fun _ _ => noIll_next _
  case ldAtN16A => show noIll (storeA _ s); unfold storeA; exact noIll_memWrite hs fun _ _ => noIll_next _
  case ldhAtN8A => show noIll (storeA _ s); unfold storeA; exact noIll_memWrite hs fun _ _ => noIll_next _
  case ldhAtCA => show noIll (storeA _ s); unfold storeA; exact noIll_memWrite hs fun _ _ => noIll_next _
  case ldAtHliA => show noIll (storeAStep _ s); unfold storeAStep; exact noIll_memWrite hs fun _ _ => noIll_next _
  case ldAtHldA => show noIll (storeAStep _ s); unfold storeAStep; exact noIll_memWrite hs fun _ _ => noIll_next _
  case rowPush => unfold push; exact noIll_push16 (s := internal s) hs fun _ => noIll_next _
  case rowPop => unfold pop; exact noIll_pop16 hs fun _ _ => noIll_next _
  case rowRst => exact noIll_call hs
  case callN16 => exact noIll_call hs
  case ret => exact noIll_ret hs
  case reti => show noIll (returnFromInterrupt s); unfold returnFromInterrupt; exact noIll_pop16 hs fun _ _ => noIll_next _
  all_goals exact noIll_next _

/-- IllegalOpcode after a fetch comes from what runs after it. -/
theorem fetch8_ill {s : State} {k : Byte → State → StepResult} {a o f} (hs : s.fault = none)
    (h : fetch8 s k = .fault (.illegalOpcode a o f)) :
    ∃ v, busRead s.regs.pc (internal s) = some v ∧ k v ((internal s).setPc (s.regs.pc + 1)) = .fault (.illegalOpcode a o f) := by
  unfold fetch8 memRead at h
  split at h
  · exact ⟨_, ‹_›, h⟩
  · unfold raise at h; rw [show (internal s).fault = none from hs] at h; cases h

end Sys2Proof.Machine
end

