-- ==== Sys2Proof/Laws/Durations.lean ====
section
/-! SUPPORT. How many M-cycles each shared operation takes, and the timer between them. -/

namespace Sys2Proof.Machine

/-! M-cycles. -/

/-- If `r` is a next state, `k` M-cycles have passed since `s`. -/
def lasts (k : Nat) (s : State) (r : StepResult) : Prop := ∀ t, r = .next t → t.t = s.t + 4 * k

theorem lasts_next {k} {s t : State} (h : t.t = s.t + 4 * k) : lasts k s (.next t) := fun _ e => by cases e; exact h

theorem lasts_memRead {addr} {s : State} {k n} (h : ∀ v, lasts n (internal s) (k v (internal s))) : lasts (n+1) s (memRead addr s k) := by
  intro t e
  obtain ⟨v, _, e⟩ := memRead_next e
  have := h v t e
  rw [show (internal s).t = s.t + 4 from rfl] at this
  omega

theorem lasts_memWrite {addr v} {s : State} {k n} (h : ∀ u, lasts n u (k u)) : lasts (n+1) s (memWrite addr v s k) := by
  intro t e
  obtain ⟨u, hu, e⟩ := memWrite_next e
  have := h u t e
  have h2 := (busWrite_frame hu).2.2.2.2.2.1
  rw [show (internal s).t = s.t + 4 from rfl] at h2
  omega

theorem lasts_push16 {v} {s : State} {k n} (h : ∀ u, lasts n u (k u)) : lasts (n+2) s (push16 v s k) :=
  lasts_memWrite (s := s.setSp _) fun u => lasts_memWrite (s := u.setSp _) h

theorem lasts_pop16 {s : State} {k n} (h : ∀ v u, lasts n u (k v u)) : lasts (n+2) s (pop16 s k) :=
  lasts_memRead fun _ => lasts_memRead (s := State.setSp _ _) fun _ => h _ (State.setSp _ _)

theorem lasts_internal {n} {s : State} {r} (h : lasts n (internal s) r) : lasts (n+1) s r := by
  intro t e
  have := h t e
  rw [show (internal s).t = s.t + 4 from rfl] at this
  omega

theorem lasts_aluOn {op v} {s : State} : lasts 0 s (aluOn op v s) := by
  unfold aluOn; simp only; refine lasts_next ?_; split <;> rfl

theorem lasts_call {a} {s : State} : lasts 3 s (call a s) := by
  unfold call; exact lasts_internal (lasts_push16 fun _ => lasts_next rfl)

theorem lasts_ret {s : State} : lasts 3 s (ret s) := by
  unfold ret; exact lasts_pop16 fun _ _ => lasts_next rfl

theorem fetched_t (n) (s : State) : (fetched n s).t = s.t + 4 * n := internals_t n s

/-! Conditions and rows. -/

theorem condForm_some {cc : Cond} {i : Instr} (h : condForm cc i) : (instrInfo i).mcyclesNotTaken ≠ none := by
  rcases h with ⟨n, rfl⟩ | ⟨n, rfl⟩ | ⟨n, rfl⟩ | rfl <;> cases cc <;> exact Option.some_ne_none _

/-- The condition of a conditional instruction. -/
def ccOf (i : Instr) : Option Cond := match i with
  | .jpNzN16 _ => some .nz | .jpZN16 _ => some .z | .jpNcN16 _ => some .nc | .jpCN16 _ => some .c
  | .jrNzE8 _ => some .nz | .jrZE8 _ => some .z | .jrNcE8 _ => some .nc | .jrCE8 _ => some .c
  | .callNzN16 _ => some .nz | .callZN16 _ => some .z | .callNcN16 _ => some .nc | .callCN16 _ => some .c
  | .retNz => some .nz | .retZ => some .z | .retNc => some .nc | .retC => some .c
  | _ => none

theorem ccOf_form {cc : Cond} {i : Instr} (h : condForm cc i) : ccOf i = some cc := by
  rcases h with ⟨n, rfl⟩ | ⟨n, rfl⟩ | ⟨n, rfl⟩ | rfl <;> cases cc <;> rfl

theorem condForm_inj {cc cc' : Cond} {i : Instr} (h : condForm cc i) (h' : condForm cc' i) : cc' = cc := by
  have := (ccOf_form h').symm.trans (ccOf_form h); simpa using this

theorem info_len (i : Instr) : (encode i).length = (instrInfo i).length := by cases i <;> rfl

theorem info_bound (i : Instr) : (instrInfo i).mcycles ≤ 6 ∧ ∀ m, (instrInfo i).mcyclesNotTaken = some m → m ≤ 6 := by
  cases i <;> first
    | exact ⟨Nat.le_of_ble_eq_true rfl, fun _ h => absurd h (Option.some_ne_none _).symm⟩
    | exact ⟨Nat.le_of_ble_eq_true rfl, fun _ h => Option.some.inj h ▸ Nat.le_of_ble_eq_true rfl⟩

/-! The timer. -/

theorem ticks_succ (n : Nat) (s : State) : ticks (n+1) s = tick (ticks n s) := by
  induction n generalizing s with
  | zero => rfl
  | succ n ih => exact ih (tick s)

/-- The watched bits by the select bits (R331). -/
theorem selBit_eq (x : BitVec 2) : selBit x = [9, 3, 5, 7].getD x.toNat 0 := by revert x; decide

/-- `IncTima` by the value 0xFF (R333). -/
theorem incTima_eq (tm : Timer) : tm.incTima = if tm.tima = 0xFF then { tm with tima := 0, overflowPending := true, reloadDelay := 4 }
      else { tm with tima := tm.tima + 1 } := by
  have : ∀ x : Byte, x + 1 = 0 ↔ x = 0xFF := by decide +kernel
  unfold Timer.incTima
  simp only [this]
  split
  · rename_i h; rw [h]; rfl
  · rfl

/-- The bits of the kinds that `ext_irq(t)` lists (R312). -/
theorem extRequests_bit (l : List (Nat × ExtKind)) (t : Nat) (k : IntKind) :
    (extRequests l t).getLsbD k.num = true ↔ ∃ e : ExtKind, e.kind = k ∧ (t, e) ∈ l := by
  have hb : ∀ e : ExtKind, e.kind.bit.getLsbD k.num = decide (e.kind = k) := by intro e; cases e <;> cases k <;> decide
  induction l with
  | nil => simp [extRequests]
  | cons x l ih =>
    obtain ⟨t', e'⟩ := x
    refine (by rw [extRequests, BitVec.getLsbD_or, Bool.or_eq_true] : _ ↔ _).trans ((or_congr_right ih).trans ?_)
    constructor
    · rintro (h | ⟨e, he, hm⟩)
      · split at h
        · rename_i ht; subst ht
          rw [hb, decide_eq_true_eq] at h
          exact ⟨e', h, by simp⟩
        · simp at h
      · exact ⟨e, he, List.mem_cons_of_mem _ hm⟩
    · rintro ⟨e, he, hm⟩
      rcases List.mem_cons.1 hm with hm | hm
      · injection hm with h1 h2; subst h1 h2
        rw [if_pos rfl, hb]; simp [he]
      · exact .inr ⟨e, he, hm⟩

/-- The Timer request of a T-cycle: a pending reload whose delay runs out (R332). -/
theorem countReload_request (tm : Timer) : tm.countReload.2 = (tm.overflowPending && decide (tm.reloadDelay ≤ 1)) := by
  unfold Timer.countReload
  split
  · rename_i h; rw [h]
    split
    · simp; omega
    · simp; omega
  · rename_i h; simp [h]

theorem ext_bit2 (l : List (Nat × ExtKind)) (t : Nat) : (extRequests l t).getLsbD 2 = false := by
  induction l with
  | nil => simp [extRequests]
  | cons x l ih => unfold extRequests; rw [BitVec.getLsbD_or, ih]; split
                   · cases x.2 <;> rfl
                   · rfl

/-- The Timer bit of IF is set by the timer alone (R312, R332). -/
theorem tick_if (s : State) : (tick s).iflag.getLsbD 2 = (s.iflag.getLsbD 2 || s.timer.tick.2) := by
  simp only [tick, BitVec.getLsbD_or, ext_bit2, Bool.or_false]
  cases s.timer.tick.2 <;> rfl

/-- The watched bit falls exactly when the next divider value is a multiple of the period (R331). -/
theorem edge_iff (b : BitVec 2) (d : Word) : (d.getLsbD (selBit b) && !(d + 1).getLsbD (selBit b)) = decide ((d.toNat + 1) % 2 ^ (selBit b + 1) = 0) := by
  have h4 : ∀ k, k < 16 → ((d + 1).getLsbD k = decide ((d.toNat + 1) % 65536 / 2 ^ k % 2 = 1) ∧ d.getLsbD k = decide (d.toNat / 2 ^ k % 2 = 1)) := by
    intro k hk
    constructor
    · rw [BitVec.getLsbD, Nat.testBit_eq_decide_div_mod_eq, BitVec.toNat_add]; rfl
    · rw [BitVec.getLsbD, Nat.testBit_eq_decide_div_mod_eq]
  have hb : b = 0 ∨ b = 1 ∨ b = 2 ∨ b = 3 := by revert b; decide
  have hl := d.isLt
  rcases hb with rfl | rfl | rfl | rfl <;> simp only [show selBit 0 = 9 from rfl, show selBit 1 = 3 from rfl, show selBit 2 = 5 from rfl, show selBit 3 = 7 from rfl] <;>
    (rw [(h4 _ (by decide)).1, (h4 _ (by decide)).2, Bool.eq_iff_iff]; simp only [Bool.and_eq_true, Bool.not_eq_true', decide_eq_true_eq, decide_eq_false_iff_not, Nat.reducePow, Nat.reduceAdd]; omega)

/-- While the signal is 0 the watched bit does not fall for four T-cycles: it has to rise first, and stays 1 for at least eight. -/
theorem no_edge_soon {tac : BitVec 3} {d : Word} (h : timerSignal tac d = false) {j : Nat} (hj : j < 4) :
    (tacEnable tac && watchedBit tac (d + BitVec.ofNat 16 j) && !watchedBit tac (d + BitVec.ofNat 16 j + 1)) = false := by
  unfold timerSignal watchedBit at *
  cases he : tacEnable tac
  · rfl
  rw [he, Bool.true_and] at h
  rw [Bool.true_and, edge_iff]
  generalize tac.setWidth 2 = b at *
  have hb : ∀ b : BitVec 2, b = 0 ∨ b = 1 ∨ b = 2 ∨ b = 3 := by decide
  have hl := d.isLt
  have hn : (d + BitVec.ofNat 16 j).toNat = (d.toNat + j) % 65536 := by
    rw [BitVec.toNat_add, BitVec.toNat_ofNat, Nat.mod_eq_of_lt (by omega : j < 2 ^ 16)]
  rw [hn]
  rw [BitVec.getLsbD, Nat.testBit_eq_decide_div_mod_eq, decide_eq_false_iff_not] at h
  rw [decide_eq_false_iff_not]
  rcases hb b with rfl | rfl | rfl | rfl <;>
    simp only [show selBit 0 = 9 from rfl, show selBit 1 = 3 from rfl, show selBit 2 = 5 from rfl, show selBit 3 = 7 from rfl,
      Nat.reducePow, Nat.reduceAdd] at h ⊢ <;> omega

end Sys2Proof.Machine
end

