-- ==== Sys2Proof/Laws/PerInstr.lean ====
section
/-! SUPPORT. Facts about every instruction as syntax, one lemma per constructor. -/

namespace Sys2Proof.Laws

/-- The number of bytes encoded is the row's length, and for a whole instruction it is what the first byte alone gives (R95). -/
def LengthOfFirstByte.Statement (i : Instr) : Prop :=
  (encode i).length = (Machine.instrInfo i).length ∧
    (i.wellFormed = true → (encode i).head?.map instrLength = some (encode i).length)

namespace LengthOfFirstByte

theorem nop : Statement .nop := ⟨rfl, fun _ => rfl⟩
theorem ldBcN16 (n : Word) : Statement (.ldBcN16 n) := ⟨rfl, fun _ => rfl⟩
theorem ldAtBcA : Statement .ldAtBcA := ⟨rfl, fun _ => rfl⟩
theorem incBc : Statement .incBc := ⟨rfl, fun _ => rfl⟩
theorem incB : Statement .incB := ⟨rfl, fun _ => rfl⟩
theorem decB : Statement .decB := ⟨rfl, fun _ => rfl⟩
theorem ldBN8 (n : Byte) : Statement (.ldBN8 n) := ⟨rfl, fun _ => rfl⟩
theorem rlca : Statement .rlca := ⟨rfl, fun _ => rfl⟩
theorem ldAtN16Sp (n : Word) : Statement (.ldAtN16Sp n) := ⟨rfl, fun _ => rfl⟩
theorem addHlBc : Statement .addHlBc := ⟨rfl, fun _ => rfl⟩
theorem ldAAtBc : Statement .ldAAtBc := ⟨rfl, fun _ => rfl⟩
theorem decBc : Statement .decBc := ⟨rfl, fun _ => rfl⟩
theorem incC : Statement .incC := ⟨rfl, fun _ => rfl⟩
theorem decC : Statement .decC := ⟨rfl, fun _ => rfl⟩
theorem ldCN8 (n : Byte) : Statement (.ldCN8 n) := ⟨rfl, fun _ => rfl⟩
theorem rrca : Statement .rrca := ⟨rfl, fun _ => rfl⟩
theorem stop (n : Byte) : Statement (.stop n) := ⟨rfl, fun _ => rfl⟩
theorem ldDeN16 (n : Word) : Statement (.ldDeN16 n) := ⟨rfl, fun _ => rfl⟩
theorem ldAtDeA : Statement .ldAtDeA := ⟨rfl, fun _ => rfl⟩
theorem incDe : Statement .incDe := ⟨rfl, fun _ => rfl⟩
theorem incD : Statement .incD := ⟨rfl, fun _ => rfl⟩
theorem decD : Statement .decD := ⟨rfl, fun _ => rfl⟩
theorem ldDN8 (n : Byte) : Statement (.ldDN8 n) := ⟨rfl, fun _ => rfl⟩
theorem rla : Statement .rla := ⟨rfl, fun _ => rfl⟩
theorem jrE8 (e : Byte) : Statement (.jrE8 e) := ⟨rfl, fun _ => rfl⟩
theorem addHlDe : Statement .addHlDe := ⟨rfl, fun _ => rfl⟩
theorem ldAAtDe : Statement .ldAAtDe := ⟨rfl, fun _ => rfl⟩
theorem decDe : Statement .decDe := ⟨rfl, fun _ => rfl⟩
theorem incE : Statement .incE := ⟨rfl, fun _ => rfl⟩
theorem decE : Statement .decE := ⟨rfl, fun _ => rfl⟩
theorem ldEN8 (n : Byte) : Statement (.ldEN8 n) := ⟨rfl, fun _ => rfl⟩
theorem rra : Statement .rra := ⟨rfl, fun _ => rfl⟩
theorem jrNzE8 (e : Byte) : Statement (.jrNzE8 e) := ⟨rfl, fun _ => rfl⟩
theorem ldHlN16 (n : Word) : Statement (.ldHlN16 n) := ⟨rfl, fun _ => rfl⟩
theorem ldAtHliA : Statement .ldAtHliA := ⟨rfl, fun _ => rfl⟩
theorem incHl : Statement .incHl := ⟨rfl, fun _ => rfl⟩
theorem incH : Statement .incH := ⟨rfl, fun _ => rfl⟩
theorem decH : Statement .decH := ⟨rfl, fun _ => rfl⟩
theorem ldHN8 (n : Byte) : Statement (.ldHN8 n) := ⟨rfl, fun _ => rfl⟩
theorem daa : Statement .daa := ⟨rfl, fun _ => rfl⟩
theorem jrZE8 (e : Byte) : Statement (.jrZE8 e) := ⟨rfl, fun _ => rfl⟩
theorem addHlHl : Statement .addHlHl := ⟨rfl, fun _ => rfl⟩
theorem ldAAtHli : Statement .ldAAtHli := ⟨rfl, fun _ => rfl⟩
theorem decHl : Statement .decHl := ⟨rfl, fun _ => rfl⟩
theorem incL : Statement .incL := ⟨rfl, fun _ => rfl⟩
theorem decL : Statement .decL := ⟨rfl, fun _ => rfl⟩
theorem ldLN8 (n : Byte) : Statement (.ldLN8 n) := ⟨rfl, fun _ => rfl⟩
theorem cpl : Statement .cpl := ⟨rfl, fun _ => rfl⟩
theorem jrNcE8 (e : Byte) : Statement (.jrNcE8 e) := ⟨rfl, fun _ => rfl⟩
theorem ldSpN16 (n : Word) : Statement (.ldSpN16 n) := ⟨rfl, fun _ => rfl⟩
theorem ldAtHldA : Statement .ldAtHldA := ⟨rfl, fun _ => rfl⟩
theorem incSp : Statement .incSp := ⟨rfl, fun _ => rfl⟩
theorem incAtHl : Statement .incAtHl := ⟨rfl, fun _ => rfl⟩
theorem decAtHl : Statement .decAtHl := ⟨rfl, fun _ => rfl⟩
theorem ldAtHlN8 (n : Byte) : Statement (.ldAtHlN8 n) := ⟨rfl, fun _ => rfl⟩
theorem scf : Statement .scf := ⟨rfl, fun _ => rfl⟩
theorem jrCE8 (e : Byte) : Statement (.jrCE8 e) := ⟨rfl, fun _ => rfl⟩
theorem addHlSp : Statement .addHlSp := ⟨rfl, fun _ => rfl⟩
theorem ldAAtHld : Statement .ldAAtHld := ⟨rfl, fun _ => rfl⟩
theorem decSp : Statement .decSp := ⟨rfl, fun _ => rfl⟩
theorem incA : Statement .incA := ⟨rfl, fun _ => rfl⟩
theorem decA : Statement .decA := ⟨rfl, fun _ => rfl⟩
theorem ldAN8 (n : Byte) : Statement (.ldAN8 n) := ⟨rfl, fun _ => rfl⟩
theorem ccf : Statement .ccf := ⟨rfl, fun _ => rfl⟩
theorem ldBB : Statement .ldBB := ⟨rfl, fun _ => rfl⟩
theorem ldBC : Statement .ldBC := ⟨rfl, fun _ => rfl⟩
theorem ldBD : Statement .ldBD := ⟨rfl, fun _ => rfl⟩
theorem ldBE : Statement .ldBE := ⟨rfl, fun _ => rfl⟩
theorem ldBH : Statement .ldBH := ⟨rfl, fun _ => rfl⟩
theorem ldBL : Statement .ldBL := ⟨rfl, fun _ => rfl⟩
theorem ldBAtHl : Statement .ldBAtHl := ⟨rfl, fun _ => rfl⟩
theorem ldBA : Statement .ldBA := ⟨rfl, fun _ => rfl⟩
theorem ldCB : Statement .ldCB := ⟨rfl, fun _ => rfl⟩
theorem ldCC : Statement .ldCC := ⟨rfl, fun _ => rfl⟩
theorem ldCD : Statement .ldCD := ⟨rfl, fun _ => rfl⟩
theorem ldCE : Statement .ldCE := ⟨rfl, fun _ => rfl⟩
theorem ldCH : Statement .ldCH := ⟨rfl, fun _ => rfl⟩
theorem ldCL : Statement .ldCL := ⟨rfl, fun _ => rfl⟩
theorem ldCAtHl : Statement .ldCAtHl := ⟨rfl, fun _ => rfl⟩
theorem ldCA : Statement .ldCA := ⟨rfl, fun _ => rfl⟩
theorem ldDB : Statement .ldDB := ⟨rfl, fun _ => rfl⟩
theorem ldDC : Statement .ldDC := ⟨rfl, fun _ => rfl⟩
theorem ldDD : Statement .ldDD := ⟨rfl, fun _ => rfl⟩
theorem ldDE : Statement .ldDE := ⟨rfl, fun _ => rfl⟩
theorem ldDH : Statement .ldDH := ⟨rfl, fun _ => rfl⟩
theorem ldDL : Statement .ldDL := ⟨rfl, fun _ => rfl⟩
theorem ldDAtHl : Statement .ldDAtHl := ⟨rfl, fun _ => rfl⟩
theorem ldDA : Statement .ldDA := ⟨rfl, fun _ => rfl⟩
theorem ldEB : Statement .ldEB := ⟨rfl, fun _ => rfl⟩
theorem ldEC : Statement .ldEC := ⟨rfl, fun _ => rfl⟩
theorem ldED : Statement .ldED := ⟨rfl, fun _ => rfl⟩
theorem ldEE : Statement .ldEE := ⟨rfl, fun _ => rfl⟩
theorem ldEH : Statement .ldEH := ⟨rfl, fun _ => rfl⟩
theorem ldEL : Statement .ldEL := ⟨rfl, fun _ => rfl⟩
theorem ldEAtHl : Statement .ldEAtHl := ⟨rfl, fun _ => rfl⟩
theorem ldEA : Statement .ldEA := ⟨rfl, fun _ => rfl⟩
theorem ldHB : Statement .ldHB := ⟨rfl, fun _ => rfl⟩
theorem ldHC : Statement .ldHC := ⟨rfl, fun _ => rfl⟩
theorem ldHD : Statement .ldHD := ⟨rfl, fun _ => rfl⟩
theorem ldHE : Statement .ldHE := ⟨rfl, fun _ => rfl⟩
theorem ldHH : Statement .ldHH := ⟨rfl, fun _ => rfl⟩
theorem ldHL : Statement .ldHL := ⟨rfl, fun _ => rfl⟩
theorem ldHAtHl : Statement .ldHAtHl := ⟨rfl, fun _ => rfl⟩
theorem ldHA : Statement .ldHA := ⟨rfl, fun _ => rfl⟩
theorem ldLB : Statement .ldLB := ⟨rfl, fun _ => rfl⟩
theorem ldLC : Statement .ldLC := ⟨rfl, fun _ => rfl⟩
theorem ldLD : Statement .ldLD := ⟨rfl, fun _ => rfl⟩
theorem ldLE : Statement .ldLE := ⟨rfl, fun _ => rfl⟩
theorem ldLH : Statement .ldLH := ⟨rfl, fun _ => rfl⟩
theorem ldLL : Statement .ldLL := ⟨rfl, fun _ => rfl⟩
theorem ldLAtHl : Statement .ldLAtHl := ⟨rfl, fun _ => rfl⟩
theorem ldLA : Statement .ldLA := ⟨rfl, fun _ => rfl⟩
theorem ldAtHlB : Statement .ldAtHlB := ⟨rfl, fun _ => rfl⟩
theorem ldAtHlC : Statement .ldAtHlC := ⟨rfl, fun _ => rfl⟩
theorem ldAtHlD : Statement .ldAtHlD := ⟨rfl, fun _ => rfl⟩
theorem ldAtHlE : Statement .ldAtHlE := ⟨rfl, fun _ => rfl⟩
theorem ldAtHlH : Statement .ldAtHlH := ⟨rfl, fun _ => rfl⟩
theorem ldAtHlL : Statement .ldAtHlL := ⟨rfl, fun _ => rfl⟩
theorem halt : Statement .halt := ⟨rfl, fun _ => rfl⟩
theorem ldAtHlA : Statement .ldAtHlA := ⟨rfl, fun _ => rfl⟩
theorem ldAB : Statement .ldAB := ⟨rfl, fun _ => rfl⟩
theorem ldAC : Statement .ldAC := ⟨rfl, fun _ => rfl⟩
theorem ldAD : Statement .ldAD := ⟨rfl, fun _ => rfl⟩
theorem ldAE : Statement .ldAE := ⟨rfl, fun _ => rfl⟩
theorem ldAH : Statement .ldAH := ⟨rfl, fun _ => rfl⟩
theorem ldAL : Statement .ldAL := ⟨rfl, fun _ => rfl⟩
theorem ldAAtHl : Statement .ldAAtHl := ⟨rfl, fun _ => rfl⟩
theorem ldAA : Statement .ldAA := ⟨rfl, fun _ => rfl⟩
theorem addAB : Statement .addAB := ⟨rfl, fun _ => rfl⟩
theorem addAC : Statement .addAC := ⟨rfl, fun _ => rfl⟩
theorem addAD : Statement .addAD := ⟨rfl, fun _ => rfl⟩
theorem addAE : Statement .addAE := ⟨rfl, fun _ => rfl⟩
theorem addAH : Statement .addAH := ⟨rfl, fun _ => rfl⟩
theorem addAL : Statement .addAL := ⟨rfl, fun _ => rfl⟩
theorem addAAtHl : Statement .addAAtHl := ⟨rfl, fun _ => rfl⟩
theorem addAA : Statement .addAA := ⟨rfl, fun _ => rfl⟩
theorem adcAB : Statement .adcAB := ⟨rfl, fun _ => rfl⟩
theorem adcAC : Statement .adcAC := ⟨rfl, fun _ => rfl⟩
theorem adcAD : Statement .adcAD := ⟨rfl, fun _ => rfl⟩
theorem adcAE : Statement .adcAE := ⟨rfl, fun _ => rfl⟩
theorem adcAH : Statement .adcAH := ⟨rfl, fun _ => rfl⟩
theorem adcAL : Statement .adcAL := ⟨rfl, fun _ => rfl⟩
theorem adcAAtHl : Statement .adcAAtHl := ⟨rfl, fun _ => rfl⟩
theorem adcAA : Statement .adcAA := ⟨rfl, fun _ => rfl⟩
theorem subAB : Statement .subAB := ⟨rfl, fun _ => rfl⟩
theorem subAC : Statement .subAC := ⟨rfl, fun _ => rfl⟩
theorem subAD : Statement .subAD := ⟨rfl, fun _ => rfl⟩
theorem subAE : Statement .subAE := ⟨rfl, fun _ => rfl⟩
theorem subAH : Statement .subAH := ⟨rfl, fun _ => rfl⟩
theorem subAL : Statement .subAL := ⟨rfl, fun _ => rfl⟩
theorem subAAtHl : Statement .subAAtHl := ⟨rfl, fun _ => rfl⟩
theorem subAA : Statement .subAA := ⟨rfl, fun _ => rfl⟩
theorem sbcAB : Statement .sbcAB := ⟨rfl, fun _ => rfl⟩
theorem sbcAC : Statement .sbcAC := ⟨rfl, fun _ => rfl⟩
theorem sbcAD : Statement .sbcAD := ⟨rfl, fun _ => rfl⟩
theorem sbcAE : Statement .sbcAE := ⟨rfl, fun _ => rfl⟩
theorem sbcAH : Statement .sbcAH := ⟨rfl, fun _ => rfl⟩
theorem sbcAL : Statement .sbcAL := ⟨rfl, fun _ => rfl⟩
theorem sbcAAtHl : Statement .sbcAAtHl := ⟨rfl, fun _ => rfl⟩
theorem sbcAA : Statement .sbcAA := ⟨rfl, fun _ => rfl⟩
theorem andAB : Statement .andAB := ⟨rfl, fun _ => rfl⟩
theorem andAC : Statement .andAC := ⟨rfl, fun _ => rfl⟩
theorem andAD : Statement .andAD := ⟨rfl, fun _ => rfl⟩
theorem andAE : Statement .andAE := ⟨rfl, fun _ => rfl⟩
theorem andAH : Statement .andAH := ⟨rfl, fun _ => rfl⟩
theorem andAL : Statement .andAL := ⟨rfl, fun _ => rfl⟩
theorem andAAtHl : Statement .andAAtHl := ⟨rfl, fun _ => rfl⟩
theorem andAA : Statement .andAA := ⟨rfl, fun _ => rfl⟩
theorem xorAB : Statement .xorAB := ⟨rfl, fun _ => rfl⟩
theorem xorAC : Statement .xorAC := ⟨rfl, fun _ => rfl⟩
theorem xorAD : Statement .xorAD := ⟨rfl, fun _ => rfl⟩
theorem xorAE : Statement .xorAE := ⟨rfl, fun _ => rfl⟩
theorem xorAH : Statement .xorAH := ⟨rfl, fun _ => rfl⟩
theorem xorAL : Statement .xorAL := ⟨rfl, fun _ => rfl⟩
theorem xorAAtHl : Statement .xorAAtHl := ⟨rfl, fun _ => rfl⟩
theorem xorAA : Statement .xorAA := ⟨rfl, fun _ => rfl⟩
theorem orAB : Statement .orAB := ⟨rfl, fun _ => rfl⟩
theorem orAC : Statement .orAC := ⟨rfl, fun _ => rfl⟩
theorem orAD : Statement .orAD := ⟨rfl, fun _ => rfl⟩
theorem orAE : Statement .orAE := ⟨rfl, fun _ => rfl⟩
theorem orAH : Statement .orAH := ⟨rfl, fun _ => rfl⟩
theorem orAL : Statement .orAL := ⟨rfl, fun _ => rfl⟩
theorem orAAtHl : Statement .orAAtHl := ⟨rfl, fun _ => rfl⟩
theorem orAA : Statement .orAA := ⟨rfl, fun _ => rfl⟩
theorem cpAB : Statement .cpAB := ⟨rfl, fun _ => rfl⟩
theorem cpAC : Statement .cpAC := ⟨rfl, fun _ => rfl⟩
theorem cpAD : Statement .cpAD := ⟨rfl, fun _ => rfl⟩
theorem cpAE : Statement .cpAE := ⟨rfl, fun _ => rfl⟩
theorem cpAH : Statement .cpAH := ⟨rfl, fun _ => rfl⟩
theorem cpAL : Statement .cpAL := ⟨rfl, fun _ => rfl⟩
theorem cpAAtHl : Statement .cpAAtHl := ⟨rfl, fun _ => rfl⟩
theorem cpAA : Statement .cpAA := ⟨rfl, fun _ => rfl⟩
theorem retNz : Statement .retNz := ⟨rfl, fun _ => rfl⟩
theorem popBc : Statement .popBc := ⟨rfl, fun _ => rfl⟩
theorem jpNzN16 (n : Word) : Statement (.jpNzN16 n) := ⟨rfl, fun _ => rfl⟩
theorem jpN16 (n : Word) : Statement (.jpN16 n) := ⟨rfl, fun _ => rfl⟩
theorem callNzN16 (n : Word) : Statement (.callNzN16 n) := ⟨rfl, fun _ => rfl⟩
theorem pushBc : Statement .pushBc := ⟨rfl, fun _ => rfl⟩
theorem addAN8 (n : Byte) : Statement (.addAN8 n) := ⟨rfl, fun _ => rfl⟩
theorem rst00 : Statement .rst00 := ⟨rfl, fun _ => rfl⟩
theorem retZ : Statement .retZ := ⟨rfl, fun _ => rfl⟩
theorem ret : Statement .ret := ⟨rfl, fun _ => rfl⟩
theorem jpZN16 (n : Word) : Statement (.jpZN16 n) := ⟨rfl, fun _ => rfl⟩
theorem callZN16 (n : Word) : Statement (.callZN16 n) := ⟨rfl, fun _ => rfl⟩
theorem callN16 (n : Word) : Statement (.callN16 n) := ⟨rfl, fun _ => rfl⟩
theorem adcAN8 (n : Byte) : Statement (.adcAN8 n) := ⟨rfl, fun _ => rfl⟩
theorem rst08 : Statement .rst08 := ⟨rfl, fun _ => rfl⟩
theorem retNc : Statement .retNc := ⟨rfl, fun _ => rfl⟩
theorem popDe : Statement .popDe := ⟨rfl, fun _ => rfl⟩
theorem jpNcN16 (n : Word) : Statement (.jpNcN16 n) := ⟨rfl, fun _ => rfl⟩
theorem callNcN16 (n : Word) : Statement (.callNcN16 n) := ⟨rfl, fun _ => rfl⟩
theorem pushDe : Statement .pushDe := ⟨rfl, fun _ => rfl⟩
theorem subAN8 (n : Byte) : Statement (.subAN8 n) := ⟨rfl, fun _ => rfl⟩
theorem rst10 : Statement .rst10 := ⟨rfl, fun _ => rfl⟩
theorem retC : Statement .retC := ⟨rfl, fun _ => rfl⟩
theorem reti : Statement .reti := ⟨rfl, fun _ => rfl⟩
theorem jpCN16 (n : Word) : Statement (.jpCN16 n) := ⟨rfl, fun _ => rfl⟩
theorem callCN16 (n : Word) : Statement (.callCN16 n) := ⟨rfl, fun _ => rfl⟩
theorem sbcAN8 (n : Byte) : Statement (.sbcAN8 n) := ⟨rfl, fun _ => rfl⟩
theorem rst18 : Statement .rst18 := ⟨rfl, fun _ => rfl⟩
theorem ldhAtN8A (n : Byte) : Statement (.ldhAtN8A n) := ⟨rfl, fun _ => rfl⟩
theorem popHl : Statement .popHl := ⟨rfl, fun _ => rfl⟩
theorem ldhAtCA : Statement .ldhAtCA := ⟨rfl, fun _ => rfl⟩
theorem pushHl : Statement .pushHl := ⟨rfl, fun _ => rfl⟩
theorem andAN8 (n : Byte) : Statement (.andAN8 n) := ⟨rfl, fun _ => rfl⟩
theorem rst20 : Statement .rst20 := ⟨rfl, fun _ => rfl⟩
theorem addSpE8 (e : Byte) : Statement (.addSpE8 e) := ⟨rfl, fun _ => rfl⟩
theorem jpHl : Statement .jpHl := ⟨rfl, fun _ => rfl⟩
theorem ldAtN16A (n : Word) : Statement (.ldAtN16A n) := ⟨rfl, fun _ => rfl⟩
theorem xorAN8 (n : Byte) : Statement (.xorAN8 n) := ⟨rfl, fun _ => rfl⟩
theorem rst28 : Statement .rst28 := ⟨rfl, fun _ => rfl⟩
theorem ldhAAtN8 (n : Byte) : Statement (.ldhAAtN8 n) := ⟨rfl, fun _ => rfl⟩
theorem popAf : Statement .popAf := ⟨rfl, fun _ => rfl⟩
theorem ldhAAtC : Statement .ldhAAtC := ⟨rfl, fun _ => rfl⟩
theorem di : Statement .di := ⟨rfl, fun _ => rfl⟩
theorem pushAf : Statement .pushAf := ⟨rfl, fun _ => rfl⟩
theorem orAN8 (n : Byte) : Statement (.orAN8 n) := ⟨rfl, fun _ => rfl⟩
theorem rst30 : Statement .rst30 := ⟨rfl, fun _ => rfl⟩
theorem ldHlSpE8 (e : Byte) : Statement (.ldHlSpE8 e) := ⟨rfl, fun _ => rfl⟩
theorem ldSpHl : Statement .ldSpHl := ⟨rfl, fun _ => rfl⟩
theorem ldAAtN16 (n : Word) : Statement (.ldAAtN16 n) := ⟨rfl, fun _ => rfl⟩
theorem ei : Statement .ei := ⟨rfl, fun _ => rfl⟩
theorem cpAN8 (n : Byte) : Statement (.cpAN8 n) := ⟨rfl, fun _ => rfl⟩
theorem rst38 : Statement .rst38 := ⟨rfl, fun _ => rfl⟩
theorem rlcB : Statement .rlcB := ⟨rfl, fun _ => rfl⟩
theorem rlcC : Statement .rlcC := ⟨rfl, fun _ => rfl⟩
theorem rlcD : Statement .rlcD := ⟨rfl, fun _ => rfl⟩
theorem rlcE : Statement .rlcE := ⟨rfl, fun _ => rfl⟩
theorem rlcH : Statement .rlcH := ⟨rfl, fun _ => rfl⟩
theorem rlcL : Statement .rlcL := ⟨rfl, fun _ => rfl⟩
theorem rlcAtHl : Statement .rlcAtHl := ⟨rfl, fun _ => rfl⟩
theorem rlcA : Statement .rlcA := ⟨rfl, fun _ => rfl⟩
theorem rrcB : Statement .rrcB := ⟨rfl, fun _ => rfl⟩
theorem rrcC : Statement .rrcC := ⟨rfl, fun _ => rfl⟩
theorem rrcD : Statement .rrcD := ⟨rfl, fun _ => rfl⟩
theorem rrcE : Statement .rrcE := ⟨rfl, fun _ => rfl⟩
theorem rrcH : Statement .rrcH := ⟨rfl, fun _ => rfl⟩
theorem rrcL : Statement .rrcL := ⟨rfl, fun _ => rfl⟩
theorem rrcAtHl : Statement .rrcAtHl := ⟨rfl, fun _ => rfl⟩
theorem rrcA : Statement .rrcA := ⟨rfl, fun _ => rfl⟩
theorem rlB : Statement .rlB := ⟨rfl, fun _ => rfl⟩
theorem rlC : Statement .rlC := ⟨rfl, fun _ => rfl⟩
theorem rlD : Statement .rlD := ⟨rfl, fun _ => rfl⟩
theorem rlE : Statement .rlE := ⟨rfl, fun _ => rfl⟩
theorem rlH : Statement .rlH := ⟨rfl, fun _ => rfl⟩
theorem rlL : Statement .rlL := ⟨rfl, fun _ => rfl⟩
theorem rlAtHl : Statement .rlAtHl := ⟨rfl, fun _ => rfl⟩
theorem rlA : Statement .rlA := ⟨rfl, fun _ => rfl⟩
theorem rrB : Statement .rrB := ⟨rfl, fun _ => rfl⟩
theorem rrC : Statement .rrC := ⟨rfl, fun _ => rfl⟩
theorem rrD : Statement .rrD := ⟨rfl, fun _ => rfl⟩
theorem rrE : Statement .rrE := ⟨rfl, fun _ => rfl⟩
theorem rrH : Statement .rrH := ⟨rfl, fun _ => rfl⟩
theorem rrL : Statement .rrL := ⟨rfl, fun _ => rfl⟩
theorem rrAtHl : Statement .rrAtHl := ⟨rfl, fun _ => rfl⟩
theorem rrA : Statement .rrA := ⟨rfl, fun _ => rfl⟩
theorem slaB : Statement .slaB := ⟨rfl, fun _ => rfl⟩
theorem slaC : Statement .slaC := ⟨rfl, fun _ => rfl⟩
theorem slaD : Statement .slaD := ⟨rfl, fun _ => rfl⟩
theorem slaE : Statement .slaE := ⟨rfl, fun _ => rfl⟩
theorem slaH : Statement .slaH := ⟨rfl, fun _ => rfl⟩
theorem slaL : Statement .slaL := ⟨rfl, fun _ => rfl⟩
theorem slaAtHl : Statement .slaAtHl := ⟨rfl, fun _ => rfl⟩
theorem slaA : Statement .slaA := ⟨rfl, fun _ => rfl⟩
theorem sraB : Statement .sraB := ⟨rfl, fun _ => rfl⟩
theorem sraC : Statement .sraC := ⟨rfl, fun _ => rfl⟩
theorem sraD : Statement .sraD := ⟨rfl, fun _ => rfl⟩
theorem sraE : Statement .sraE := ⟨rfl, fun _ => rfl⟩
theorem sraH : Statement .sraH := ⟨rfl, fun _ => rfl⟩
theorem sraL : Statement .sraL := ⟨rfl, fun _ => rfl⟩
theorem sraAtHl : Statement .sraAtHl := ⟨rfl, fun _ => rfl⟩
theorem sraA : Statement .sraA := ⟨rfl, fun _ => rfl⟩
theorem swapB : Statement .swapB := ⟨rfl, fun _ => rfl⟩
theorem swapC : Statement .swapC := ⟨rfl, fun _ => rfl⟩
theorem swapD : Statement .swapD := ⟨rfl, fun _ => rfl⟩
theorem swapE : Statement .swapE := ⟨rfl, fun _ => rfl⟩
theorem swapH : Statement .swapH := ⟨rfl, fun _ => rfl⟩
theorem swapL : Statement .swapL := ⟨rfl, fun _ => rfl⟩
theorem swapAtHl : Statement .swapAtHl := ⟨rfl, fun _ => rfl⟩
theorem swapA : Statement .swapA := ⟨rfl, fun _ => rfl⟩
theorem srlB : Statement .srlB := ⟨rfl, fun _ => rfl⟩
theorem srlC : Statement .srlC := ⟨rfl, fun _ => rfl⟩
theorem srlD : Statement .srlD := ⟨rfl, fun _ => rfl⟩
theorem srlE : Statement .srlE := ⟨rfl, fun _ => rfl⟩
theorem srlH : Statement .srlH := ⟨rfl, fun _ => rfl⟩
theorem srlL : Statement .srlL := ⟨rfl, fun _ => rfl⟩
theorem srlAtHl : Statement .srlAtHl := ⟨rfl, fun _ => rfl⟩
theorem srlA : Statement .srlA := ⟨rfl, fun _ => rfl⟩
theorem bit0B : Statement .bit0B := ⟨rfl, fun _ => rfl⟩
theorem bit0C : Statement .bit0C := ⟨rfl, fun _ => rfl⟩
theorem bit0D : Statement .bit0D := ⟨rfl, fun _ => rfl⟩
theorem bit0E : Statement .bit0E := ⟨rfl, fun _ => rfl⟩
theorem bit0H : Statement .bit0H := ⟨rfl, fun _ => rfl⟩
theorem bit0L : Statement .bit0L := ⟨rfl, fun _ => rfl⟩
theorem bit0AtHl : Statement .bit0AtHl := ⟨rfl, fun _ => rfl⟩
theorem bit0A : Statement .bit0A := ⟨rfl, fun _ => rfl⟩
theorem bit1B : Statement .bit1B := ⟨rfl, fun _ => rfl⟩
theorem bit1C : Statement .bit1C := ⟨rfl, fun _ => rfl⟩
theorem bit1D : Statement .bit1D := ⟨rfl, fun _ => rfl⟩
theorem bit1E : Statement .bit1E := ⟨rfl, fun _ => rfl⟩
theorem bit1H : Statement .bit1H := ⟨rfl, fun _ => rfl⟩
theorem bit1L : Statement .bit1L := ⟨rfl, fun _ => rfl⟩
theorem bit1AtHl : Statement .bit1AtHl := ⟨rfl, fun _ => rfl⟩
theorem bit1A : Statement .bit1A := ⟨rfl, fun _ => rfl⟩
theorem bit2B : Statement .bit2B := ⟨rfl, fun _ => rfl⟩
theorem bit2C : Statement .bit2C := ⟨rfl, fun _ => rfl⟩
theorem bit2D : Statement .bit2D := ⟨rfl, fun _ => rfl⟩
theorem bit2E : Statement .bit2E := ⟨rfl, fun _ => rfl⟩
theorem bit2H : Statement .bit2H := ⟨rfl, fun _ => rfl⟩
theorem bit2L : Statement .bit2L := ⟨rfl, fun _ => rfl⟩
theorem bit2AtHl : Statement .bit2AtHl := ⟨rfl, fun _ => rfl⟩
theorem bit2A : Statement .bit2A := ⟨rfl, fun _ => rfl⟩
theorem bit3B : Statement .bit3B := ⟨rfl, fun _ => rfl⟩
theorem bit3C : Statement .bit3C := ⟨rfl, fun _ => rfl⟩
theorem bit3D : Statement .bit3D := ⟨rfl, fun _ => rfl⟩
theorem bit3E : Statement .bit3E := ⟨rfl, fun _ => rfl⟩
theorem bit3H : Statement .bit3H := ⟨rfl, fun _ => rfl⟩
theorem bit3L : Statement .bit3L := ⟨rfl, fun _ => rfl⟩
theorem bit3AtHl : Statement .bit3AtHl := ⟨rfl, fun _ => rfl⟩
theorem bit3A : Statement .bit3A := ⟨rfl, fun _ => rfl⟩
theorem bit4B : Statement .bit4B := ⟨rfl, fun _ => rfl⟩
theorem bit4C : Statement .bit4C := ⟨rfl, fun _ => rfl⟩
theorem bit4D : Statement .bit4D := ⟨rfl, fun _ => rfl⟩
theorem bit4E : Statement .bit4E := ⟨rfl, fun _ => rfl⟩
theorem bit4H : Statement .bit4H := ⟨rfl, fun _ => rfl⟩
theorem bit4L : Statement .bit4L := ⟨rfl, fun _ => rfl⟩
theorem bit4AtHl : Statement .bit4AtHl := ⟨rfl, fun _ => rfl⟩
theorem bit4A : Statement .bit4A := ⟨rfl, fun _ => rfl⟩
theorem bit5B : Statement .bit5B := ⟨rfl, fun _ => rfl⟩
theorem bit5C : Statement .bit5C := ⟨rfl, fun _ => rfl⟩
theorem bit5D : Statement .bit5D := ⟨rfl, fun _ => rfl⟩
theorem bit5E : Statement .bit5E := ⟨rfl, fun _ => rfl⟩
theorem bit5H : Statement .bit5H := ⟨rfl, fun _ => rfl⟩
theorem bit5L : Statement .bit5L := ⟨rfl, fun _ => rfl⟩
theorem bit5AtHl : Statement .bit5AtHl := ⟨rfl, fun _ => rfl⟩
theorem bit5A : Statement .bit5A := ⟨rfl, fun _ => rfl⟩
theorem bit6B : Statement .bit6B := ⟨rfl, fun _ => rfl⟩
theorem bit6C : Statement .bit6C := ⟨rfl, fun _ => rfl⟩
theorem bit6D : Statement .bit6D := ⟨rfl, fun _ => rfl⟩
theorem bit6E : Statement .bit6E := ⟨rfl, fun _ => rfl⟩
theorem bit6H : Statement .bit6H := ⟨rfl, fun _ => rfl⟩
theorem bit6L : Statement .bit6L := ⟨rfl, fun _ => rfl⟩
theorem bit6AtHl : Statement .bit6AtHl := ⟨rfl, fun _ => rfl⟩
theorem bit6A : Statement .bit6A := ⟨rfl, fun _ => rfl⟩
theorem bit7B : Statement .bit7B := ⟨rfl, fun _ => rfl⟩
theorem bit7C : Statement .bit7C := ⟨rfl, fun _ => rfl⟩
theorem bit7D : Statement .bit7D := ⟨rfl, fun _ => rfl⟩
theorem bit7E : Statement .bit7E := ⟨rfl, fun _ => rfl⟩
theorem bit7H : Statement .bit7H := ⟨rfl, fun _ => rfl⟩
theorem bit7L : Statement .bit7L := ⟨rfl, fun _ => rfl⟩
theorem bit7AtHl : Statement .bit7AtHl := ⟨rfl, fun _ => rfl⟩
theorem bit7A : Statement .bit7A := ⟨rfl, fun _ => rfl⟩
theorem res0B : Statement .res0B := ⟨rfl, fun _ => rfl⟩
theorem res0C : Statement .res0C := ⟨rfl, fun _ => rfl⟩
theorem res0D : Statement .res0D := ⟨rfl, fun _ => rfl⟩
theorem res0E : Statement .res0E := ⟨rfl, fun _ => rfl⟩
theorem res0H : Statement .res0H := ⟨rfl, fun _ => rfl⟩
theorem res0L : Statement .res0L := ⟨rfl, fun _ => rfl⟩
theorem res0AtHl : Statement .res0AtHl := ⟨rfl, fun _ => rfl⟩
theorem res0A : Statement .res0A := ⟨rfl, fun _ => rfl⟩
theorem res1B : Statement .res1B := ⟨rfl, fun _ => rfl⟩
theorem res1C : Statement .res1C := ⟨rfl, fun _ => rfl⟩
theorem res1D : Statement .res1D := ⟨rfl, fun _ => rfl⟩
theorem res1E : Statement .res1E := ⟨rfl, fun _ => rfl⟩
theorem res1H : Statement .res1H := ⟨rfl, fun _ => rfl⟩
theorem res1L : Statement .res1L := ⟨rfl, fun _ => rfl⟩
theorem res1AtHl : Statement .res1AtHl := ⟨rfl, fun _ => rfl⟩
theorem res1A : Statement .res1A := ⟨rfl, fun _ => rfl⟩
theorem res2B : Statement .res2B := ⟨rfl, fun _ => rfl⟩
theorem res2C : Statement .res2C := ⟨rfl, fun _ => rfl⟩
theorem res2D : Statement .res2D := ⟨rfl, fun _ => rfl⟩
theorem res2E : Statement .res2E := ⟨rfl, fun _ => rfl⟩
theorem res2H : Statement .res2H := ⟨rfl, fun _ => rfl⟩
theorem res2L : Statement .res2L := ⟨rfl, fun _ => rfl⟩
theorem res2AtHl : Statement .res2AtHl := ⟨rfl, fun _ => rfl⟩
theorem res2A : Statement .res2A := ⟨rfl, fun _ => rfl⟩
theorem res3B : Statement .res3B := ⟨rfl, fun _ => rfl⟩
theorem res3C : Statement .res3C := ⟨rfl, fun _ => rfl⟩
theorem res3D : Statement .res3D := ⟨rfl, fun _ => rfl⟩
theorem res3E : Statement .res3E := ⟨rfl, fun _ => rfl⟩
theorem res3H : Statement .res3H := ⟨rfl, fun _ => rfl⟩
theorem res3L : Statement .res3L := ⟨rfl, fun _ => rfl⟩
theorem res3AtHl : Statement .res3AtHl := ⟨rfl, fun _ => rfl⟩
theorem res3A : Statement .res3A := ⟨rfl, fun _ => rfl⟩
theorem res4B : Statement .res4B := ⟨rfl, fun _ => rfl⟩
theorem res4C : Statement .res4C := ⟨rfl, fun _ => rfl⟩
theorem res4D : Statement .res4D := ⟨rfl, fun _ => rfl⟩
theorem res4E : Statement .res4E := ⟨rfl, fun _ => rfl⟩
theorem res4H : Statement .res4H := ⟨rfl, fun _ => rfl⟩
theorem res4L : Statement .res4L := ⟨rfl, fun _ => rfl⟩
theorem res4AtHl : Statement .res4AtHl := ⟨rfl, fun _ => rfl⟩
theorem res4A : Statement .res4A := ⟨rfl, fun _ => rfl⟩
theorem res5B : Statement .res5B := ⟨rfl, fun _ => rfl⟩
theorem res5C : Statement .res5C := ⟨rfl, fun _ => rfl⟩
theorem res5D : Statement .res5D := ⟨rfl, fun _ => rfl⟩
theorem res5E : Statement .res5E := ⟨rfl, fun _ => rfl⟩
theorem res5H : Statement .res5H := ⟨rfl, fun _ => rfl⟩
theorem res5L : Statement .res5L := ⟨rfl, fun _ => rfl⟩
theorem res5AtHl : Statement .res5AtHl := ⟨rfl, fun _ => rfl⟩
theorem res5A : Statement .res5A := ⟨rfl, fun _ => rfl⟩
theorem res6B : Statement .res6B := ⟨rfl, fun _ => rfl⟩
theorem res6C : Statement .res6C := ⟨rfl, fun _ => rfl⟩
theorem res6D : Statement .res6D := ⟨rfl, fun _ => rfl⟩
theorem res6E : Statement .res6E := ⟨rfl, fun _ => rfl⟩
theorem res6H : Statement .res6H := ⟨rfl, fun _ => rfl⟩
theorem res6L : Statement .res6L := ⟨rfl, fun _ => rfl⟩
theorem res6AtHl : Statement .res6AtHl := ⟨rfl, fun _ => rfl⟩
theorem res6A : Statement .res6A := ⟨rfl, fun _ => rfl⟩
theorem res7B : Statement .res7B := ⟨rfl, fun _ => rfl⟩
theorem res7C : Statement .res7C := ⟨rfl, fun _ => rfl⟩
theorem res7D : Statement .res7D := ⟨rfl, fun _ => rfl⟩
theorem res7E : Statement .res7E := ⟨rfl, fun _ => rfl⟩
theorem res7H : Statement .res7H := ⟨rfl, fun _ => rfl⟩
theorem res7L : Statement .res7L := ⟨rfl, fun _ => rfl⟩
theorem res7AtHl : Statement .res7AtHl := ⟨rfl, fun _ => rfl⟩
theorem res7A : Statement .res7A := ⟨rfl, fun _ => rfl⟩
theorem set0B : Statement .set0B := ⟨rfl, fun _ => rfl⟩
theorem set0C : Statement .set0C := ⟨rfl, fun _ => rfl⟩
theorem set0D : Statement .set0D := ⟨rfl, fun _ => rfl⟩
theorem set0E : Statement .set0E := ⟨rfl, fun _ => rfl⟩
theorem set0H : Statement .set0H := ⟨rfl, fun _ => rfl⟩
theorem set0L : Statement .set0L := ⟨rfl, fun _ => rfl⟩
theorem set0AtHl : Statement .set0AtHl := ⟨rfl, fun _ => rfl⟩
theorem set0A : Statement .set0A := ⟨rfl, fun _ => rfl⟩
theorem set1B : Statement .set1B := ⟨rfl, fun _ => rfl⟩
theorem set1C : Statement .set1C := ⟨rfl, fun _ => rfl⟩
theorem set1D : Statement .set1D := ⟨rfl, fun _ => rfl⟩
theorem set1E : Statement .set1E := ⟨rfl, fun _ => rfl⟩
theorem set1H : Statement .set1H := ⟨rfl, fun _ => rfl⟩
theorem set1L : Statement .set1L := ⟨rfl, fun _ => rfl⟩
theorem set1AtHl : Statement .set1AtHl := ⟨rfl, fun _ => rfl⟩
theorem set1A : Statement .set1A := ⟨rfl, fun _ => rfl⟩
theorem set2B : Statement .set2B := ⟨rfl, fun _ => rfl⟩
theorem set2C : Statement .set2C := ⟨rfl, fun _ => rfl⟩
theorem set2D : Statement .set2D := ⟨rfl, fun _ => rfl⟩
theorem set2E : Statement .set2E := ⟨rfl, fun _ => rfl⟩
theorem set2H : Statement .set2H := ⟨rfl, fun _ => rfl⟩
theorem set2L : Statement .set2L := ⟨rfl, fun _ => rfl⟩
theorem set2AtHl : Statement .set2AtHl := ⟨rfl, fun _ => rfl⟩
theorem set2A : Statement .set2A := ⟨rfl, fun _ => rfl⟩
theorem set3B : Statement .set3B := ⟨rfl, fun _ => rfl⟩
theorem set3C : Statement .set3C := ⟨rfl, fun _ => rfl⟩
theorem set3D : Statement .set3D := ⟨rfl, fun _ => rfl⟩
theorem set3E : Statement .set3E := ⟨rfl, fun _ => rfl⟩
theorem set3H : Statement .set3H := ⟨rfl, fun _ => rfl⟩
theorem set3L : Statement .set3L := ⟨rfl, fun _ => rfl⟩
theorem set3AtHl : Statement .set3AtHl := ⟨rfl, fun _ => rfl⟩
theorem set3A : Statement .set3A := ⟨rfl, fun _ => rfl⟩
theorem set4B : Statement .set4B := ⟨rfl, fun _ => rfl⟩
theorem set4C : Statement .set4C := ⟨rfl, fun _ => rfl⟩
theorem set4D : Statement .set4D := ⟨rfl, fun _ => rfl⟩
theorem set4E : Statement .set4E := ⟨rfl, fun _ => rfl⟩
theorem set4H : Statement .set4H := ⟨rfl, fun _ => rfl⟩
theorem set4L : Statement .set4L := ⟨rfl, fun _ => rfl⟩
theorem set4AtHl : Statement .set4AtHl := ⟨rfl, fun _ => rfl⟩
theorem set4A : Statement .set4A := ⟨rfl, fun _ => rfl⟩
theorem set5B : Statement .set5B := ⟨rfl, fun _ => rfl⟩
theorem set5C : Statement .set5C := ⟨rfl, fun _ => rfl⟩
theorem set5D : Statement .set5D := ⟨rfl, fun _ => rfl⟩
theorem set5E : Statement .set5E := ⟨rfl, fun _ => rfl⟩
theorem set5H : Statement .set5H := ⟨rfl, fun _ => rfl⟩
theorem set5L : Statement .set5L := ⟨rfl, fun _ => rfl⟩
theorem set5AtHl : Statement .set5AtHl := ⟨rfl, fun _ => rfl⟩
theorem set5A : Statement .set5A := ⟨rfl, fun _ => rfl⟩
theorem set6B : Statement .set6B := ⟨rfl, fun _ => rfl⟩
theorem set6C : Statement .set6C := ⟨rfl, fun _ => rfl⟩
theorem set6D : Statement .set6D := ⟨rfl, fun _ => rfl⟩
theorem set6E : Statement .set6E := ⟨rfl, fun _ => rfl⟩
theorem set6H : Statement .set6H := ⟨rfl, fun _ => rfl⟩
theorem set6L : Statement .set6L := ⟨rfl, fun _ => rfl⟩
theorem set6AtHl : Statement .set6AtHl := ⟨rfl, fun _ => rfl⟩
theorem set6A : Statement .set6A := ⟨rfl, fun _ => rfl⟩
theorem set7B : Statement .set7B := ⟨rfl, fun _ => rfl⟩
theorem set7C : Statement .set7C := ⟨rfl, fun _ => rfl⟩
theorem set7D : Statement .set7D := ⟨rfl, fun _ => rfl⟩
theorem set7E : Statement .set7E := ⟨rfl, fun _ => rfl⟩
theorem set7H : Statement .set7H := ⟨rfl, fun _ => rfl⟩
theorem set7L : Statement .set7L := ⟨rfl, fun _ => rfl⟩
theorem set7AtHl : Statement .set7AtHl := ⟨rfl, fun _ => rfl⟩
theorem set7A : Statement .set7A := ⟨rfl, fun _ => rfl⟩
theorem prefixCb : Statement .prefixCb := ⟨rfl, by decide⟩
theorem illegalD3 : Statement .illegalD3 := ⟨rfl, fun _ => rfl⟩
theorem illegalDB : Statement .illegalDB := ⟨rfl, fun _ => rfl⟩
theorem illegalDD : Statement .illegalDD := ⟨rfl, fun _ => rfl⟩
theorem illegalE3 : Statement .illegalE3 := ⟨rfl, fun _ => rfl⟩
theorem illegalE4 : Statement .illegalE4 := ⟨rfl, fun _ => rfl⟩
theorem illegalEB : Statement .illegalEB := ⟨rfl, fun _ => rfl⟩
theorem illegalEC : Statement .illegalEC := ⟨rfl, fun _ => rfl⟩
theorem illegalED : Statement .illegalED := ⟨rfl, fun _ => rfl⟩
theorem illegalF4 : Statement .illegalF4 := ⟨rfl, fun _ => rfl⟩
theorem illegalFC : Statement .illegalFC := ⟨rfl, fun _ => rfl⟩
theorem illegalFD : Statement .illegalFD := ⟨rfl, fun _ => rfl⟩

end LengthOfFirstByte

end Sys2Proof.Laws
end

