-- ==== Sys2Proof/Tests/Slice0.lean ====
section
/-! SUPPORT. Tests: the check of ill-formed terms, words written out from the spec's encodings, one-step vectors of
95_test_vectors.md (the expected values are the spec's), and for every statement with hypotheses a witness that meets them. -/

namespace Sys2Proof.Tests

open Sys2Proof Sys2Proof.Machine

/- One theorem after the other: the checks of many small ones at once ask for more threads than the memory limit allows. -/
set_option Elab.async false

/-! Helpers. -/

/-- The start of the one-instruction vectors: reset, F = 0, PC in WRAM. -/
def start : State := { State.reset with regs := { Regs.reset with f := 0, pc := 0xC000 } }

/-- `start` with other registers. -/
def on (f : Regs → Regs) : State := { start with regs := f start.regs }

/-- One byte put into memory. -/
def put (addr : Word) (v : Byte) (s : State) : State := loadBytes addr [v] s

/-- The state after one step with these bytes at PC, if there is one. -/
def after (bytes : List Byte) (s : State) : Option State :=
  match step (loadBytes s.regs.pc bytes s) with
  | .next t => some t
  | _ => none

/-- The fault of one step with these bytes at PC, if there is one. -/
def stops (bytes : List Byte) (s : State) : Option Fault :=
  match step (loadBytes s.regs.pc bytes s) with
  | .fault f => some f
  | _ => none

/-- The state in a next state. -/
def nextOf : StepResult → Option State
  | .next t => some t
  | _ => none

theorem next_of_isSome {r : StepResult} (h : (nextOf r).isSome = true) : ∃ t, r = .next t := by
  cases r with
  | next t => exact ⟨t, rfl⟩
  | fault f => cases h
  | refused f => cases h

/-! The check of WellFormed: the one ill-formed term is the escape byte as a row of its own. -/

theorem test_wellFormed_refuses_escape : Instr.wellFormed .prefixCb = false := rfl
theorem test_wellFormed_accepts_rest : (Instr.wellFormed .nop && Instr.wellFormed (.stop 0xFF) && Instr.wellFormed .illegalD3) = true := rfl

/-! Decoding: the bytes are those that the rules of 30_encoding.md and of the instruction files write out. -/

theorem test_decode_loads :
    [decode [0x41], decode [0x3E, 0x42], decode [0x46], decode [0x77], decode [0x36, 0x99], decode [0x0A], decode [0x12], decode [0x2A], decode [0x32], decode [0xFA, 0x23, 0xC1], decode [0xEA, 0x06, 0xFF], decode [0xF0, 0x0F], decode [0xE2]] =
      [.ok (.ldBC, []), .ok (.ldAN8 0x42, []), .ok (.ldBAtHl, []), .ok (.ldAtHlA, []), .ok (.ldAtHlN8 0x99, []), .ok (.ldAAtBc, []), .ok (.ldAtDeA, []), .ok (.ldAAtHli, []), .ok (.ldAtHldA, []), .ok (.ldAAtN16 0xC123, []), .ok (.ldAtN16A 0xFF06, []), .ok (.ldhAAtN8 0x0F, []), .ok (.ldhAtCA, [])] := by
  decide +kernel

theorem test_decode_loads16 :
    [decode [0x21, 0x5B, 0x3A], decode [0x31, 0xFE, 0xFF], decode [0x08, 0x00, 0xC1], decode [0xF9], decode [0xF8, 0x02]] =
      [.ok (.ldHlN16 0x3A5B, []), .ok (.ldSpN16 0xFFFE, []), .ok (.ldAtN16Sp 0xC100, []), .ok (.ldSpHl, []), .ok (.ldHlSpE8 0x02, [])] := by
  decide +kernel

theorem test_decode_alu :
    [decode [0x80], decode [0x8E], decode [0xD6, 0x0F], decode [0x9B], decode [0xA5], decode [0xB6], decode [0xEE, 0xFF], decode [0xBF]] =
      [.ok (.addAB, []), .ok (.adcAAtHl, []), .ok (.subAN8 0x0F, []), .ok (.sbcAE, []), .ok (.andAL, []), .ok (.orAAtHl, []), .ok (.xorAN8 0xFF, []), .ok (.cpAA, [])] := by
  decide +kernel

theorem test_decode_incdec :
    [decode [0x3C], decode [0x35], decode [0x33], decode [0x0B], decode [0x29], decode [0xE8, 0xFF]] =
      [.ok (.incA, []), .ok (.decAtHl, []), .ok (.incSp, []), .ok (.decBc, []), .ok (.addHlHl, []), .ok (.addSpE8 0xFF, [])] := by
  decide +kernel

theorem test_decode_rotates :
    [decode [0x07], decode [0x1F], decode [0xCB, 0x06], decode [0xCB, 0x1C], decode [0xCB, 0x28], decode [0xCB, 0x37], decode [0xCB, 0x3F]] =
      [.ok (.rlca, []), .ok (.rra, []), .ok (.rlcAtHl, []), .ok (.rrH, []), .ok (.sraB, []), .ok (.swapA, []), .ok (.srlA, [])] := by
  decide +kernel

theorem test_decode_bits :
    [decode [0xCB, 0x7F], decode [0xCB, 0x46], decode [0xCB, 0xBF], decode [0xCB, 0x9E], decode [0xCB, 0xC1], decode [0xCB, 0xFE]] =
      [.ok (.bit7A, []), .ok (.bit0AtHl, []), .ok (.res7A, []), .ok (.res3AtHl, []), .ok (.set0C, []), .ok (.set7AtHl, [])] := by
  decide +kernel

theorem test_decode_control :
    [decode [0xC3, 0x50, 0x01], decode [0xCA, 0x00, 0x80], decode [0xE9], decode [0x18, 0x05], decode [0x30, 0x10], decode [0xCD, 0x34, 0x12], decode [0xDC, 0x34, 0x12], decode [0xC9], decode [0xD8], decode [0xD9], decode [0xCF]] =
      [.ok (.jpN16 0x0150, []), .ok (.jpZN16 0x8000, []), .ok (.jpHl, []), .ok (.jrE8 0x05, []), .ok (.jrNcE8 0x10, []), .ok (.callN16 0x1234, []), .ok (.callCN16 0x1234, []), .ok (.ret, []), .ok (.retC, []), .ok (.reti, []), .ok (.rst08, [])] := by
  decide +kernel

theorem test_decode_stack :
    [decode [0xC5], decode [0xF5], decode [0xE1], decode [0xF1]] =
      [.ok (.pushBc, []), .ok (.pushAf, []), .ok (.popHl, []), .ok (.popAf, [])] := by
  decide +kernel

theorem test_decode_misc :
    [decode [0x27], decode [0x2F], decode [0x37], decode [0x3F]] =
      [.ok (.daa, []), .ok (.cpl, []), .ok (.scf, []), .ok (.ccf, [])] := by
  decide +kernel

theorem test_decode_system :
    [decode [0x00], decode [0x10, 0x00], decode [0x76], decode [0xF3], decode [0xFB], decode [0xD3], decode [0xFD]] =
      [.ok (.nop, []), .ok (.stop 0x00, []), .ok (.halt, []), .ok (.di, []), .ok (.ei, []), .ok (.illegalD3, []), .ok (.illegalFD, [])] := by
  decide +kernel

/-- The table's numbering: the first byte is the least significant one, and the bits above the row's are zero. -/
theorem test_decode_table_words :
    [decodeTableWord 8 0x06, decodeTableWord 16 0x9E06, decodeTableWord 24 0x0150C3, decodeTableWord 16 0x37CB] =
      [some (.ldBN8 0), some (.ldBN8 0x9E), some (.jpN16 0x0150), some .swapA] := by
  decide +kernel

theorem test_decode_too_short :
    [decode [], decode [0x06], decode [0xCD, 0x34], decode [0xCB]] =
      [.error .empty, .error (.truncated 0x06), .error (.truncated 0xCD), .error (.truncated 0xCB)] := by
  decide +kernel

/-! One step: vectors of 95_test_vectors.md, named in the docstrings. -/

/-- Vector A6: `ADD A,B`. -/
theorem test_A6_add_a_b :
    (after [0x80] (on fun g => { g with a := 0x3A, b := 0xC6 })).map (fun t => (t.regs.a, t.regs.f, t.t)) =
      some (0x00, 0xB0, 4) := by
  decide +kernel

/-- Vector A8: `ADD A,[HL]`. -/
theorem test_A8_add_a_at_hl :
    (after [0x86] { (on fun g => { g with a := 0x01, h := 0xFF, l := 0x0F }) with iflag := 0x00 }).map (fun t => (t.regs.a, t.regs.f, t.t)) =
      some (0xE1, 0x00, 8) := by
  decide +kernel

/-- Vector A12: `ADC A,E`. -/
theorem test_A12_adc_a_e :
    (after [0x8B] (on fun g => { g with a := 0xE1, e := 0x0F, f := 0x10 })).map (fun t => (t.regs.a, t.regs.f, t.t)) =
      some (0xF1, 0x20, 4) := by
  decide +kernel

/-- Vector A15: `ADC A,n8`. -/
theorem test_A15_adc_a_n8 :
    (after [0xCE, 0xFF] (on fun g => { g with a := 0xFF, f := 0x10 })).map (fun t => (t.regs.a, t.regs.f, t.t)) =
      some (0xFF, 0x30, 8) := by
  decide +kernel

/-- Vector A17: `SUB A,D`. -/
theorem test_A17_sub_a_d :
    (after [0x92] (on fun g => { g with a := 0x10, d := 0x01 })).map (fun t => (t.regs.a, t.regs.f, t.t)) =
      some (0x0F, 0x60, 4) := by
  decide +kernel

/-- Vector A22: `SUB A,n8`. -/
theorem test_A22_sub_a_n8 :
    (after [0xD6, 0x80] (on fun g => { g with a := 0x80, f := 0x10 })).map (fun t => (t.regs.a, t.regs.f, t.t)) =
      some (0x00, 0xC0, 8) := by
  decide +kernel

/-- Vector A27: `SBC A,A`. -/
theorem test_A27_sbc_a_a :
    (after [0x9F] (on fun g => { g with a := 0x55, f := 0x10 })).map (fun t => (t.regs.a, t.regs.f, t.t)) =
      some (0xFF, 0x70, 4) := by
  decide +kernel

/-- Vector A34: `AND A,n8`. -/
theorem test_A34_and_a_n8 :
    (after [0xE6, 0x0F] (on fun g => { g with a := 0xF0, f := 0x50 })).map (fun t => (t.regs.a, t.regs.f, t.t)) =
      some (0x00, 0xA0, 8) := by
  decide +kernel

/-- Vector A36: `OR A,[HL]`. -/
theorem test_A36_or_a_at_hl :
    (after [0xB6] (put 0xC100 0x00 (on fun g => { g with a := 0x00, h := 0xC1, l := 0x00, f := 0xF0 }))).map (fun t => (t.regs.a, t.regs.f, t.t)) =
      some (0x00, 0x80, 8) := by
  decide +kernel

/-- Vector A38: `XOR A,n8`. -/
theorem test_A38_xor_a_n8 :
    (after [0xEE, 0xFF] (on fun g => { g with a := 0xFF, f := 0xF0 })).map (fun t => (t.regs.a, t.regs.f, t.t)) =
      some (0x00, 0x80, 8) := by
  decide +kernel

/-- Vector A44: `CP A,L`. -/
theorem test_A44_cp_a_l :
    (after [0xBD] (on fun g => { g with a := 0x10, l := 0x01 })).map (fun t => (t.regs.a, t.regs.f, t.t)) =
      some (0x10, 0x60, 4) := by
  decide +kernel

/-- Vector NC1: `INC A`. -/
theorem test_NC1_inc_a :
    (after [0x3C] (on fun g => { g with a := 0xFF, f := 0x10 })).map (fun t => (t.regs.a, t.regs.f, t.t)) =
      some (0x00, 0xB0, 4) := by
  decide +kernel

/-- Vector NC6: `DEC L`. -/
theorem test_NC6_dec_l :
    (after [0x2D] (on fun g => { g with l := 0x01 })).map (fun t => (t.regs.l, t.regs.f, t.t)) =
      some (0x00, 0xC0, 4) := by
  decide +kernel

/-- Vector NC8: `INC [HL]`. -/
theorem test_NC8_inc_at_hl :
    (after [0x34] (put 0xC100 0xFF (on fun g => { g with h := 0xC1, l := 0x00 }))).map (fun t => (busRead 0xC100 t, t.regs.f, t.t)) =
      some (some 0x00, 0xA0, 12) := by
  decide +kernel

/-- Vector NC10: `INC [HL]`. -/
theorem test_NC10_inc_at_hl :
    (after [0x34] (put 0x0150 0x0F (on fun g => { g with h := 0x01, l := 0x50 }))).map (fun t => (busRead 0x0150 t, t.regs.f, t.t)) =
      some (some 0x0F, 0x20, 12) := by
  decide +kernel

/-- Vector NC11: `INC SP`. -/
theorem test_NC11_inc_sp :
    (after [0x33] (on fun g => { g with sp := 0xFFFF, f := 0xF0 })).map (fun t => (t.regs.sp, t.regs.f, t.t)) =
      some (0x0000, 0xF0, 8) := by
  decide +kernel

/-- Vector NC14: `DEC BC`. -/
theorem test_NC14_dec_bc :
    (after [0x0B] (on fun g => { g with b := 0x01, c := 0x00 })).map (fun t => (t.get16 .bc, t.t)) =
      some (0x00FF, 8) := by
  decide +kernel

/-- Vector NC15: `ADD HL,BC`. -/
theorem test_NC15_add_hl_bc :
    (after [0x09] (on fun g => { g with h := 0x8A, l := 0x23, b := 0x06, c := 0x05, f := 0x80 })).map (fun t => (t.get16 .hl, t.regs.f, t.t)) =
      some (0x9028, 0xA0, 8) := by
  decide +kernel

/-- Vector NC17: `ADD HL,DE`. -/
theorem test_NC17_add_hl_de :
    (after [0x19] (on fun g => { g with h := 0x80, l := 0x00, d := 0x80, e := 0x00 })).map (fun t => (t.get16 .hl, t.regs.f, t.t)) =
      some (0x0000, 0x10, 8) := by
  decide +kernel

/-- Vector NC25: `ADD SP,e8`. -/
theorem test_NC25_add_sp_e8 :
    (after [0xE8, 0x80] (on fun g => { g with sp := 0x0080, f := 0xF0 })).map (fun t => (t.regs.sp, t.regs.f, t.t)) =
      some (0x0000, 0x10, 16) := by
  decide +kernel

/-- Vector RS2: `RLCA`. -/
theorem test_RS2_rlca :
    (after [0x07] (on fun g => { g with a := 0x00, f := 0x80 })).map (fun t => (t.regs.a, t.regs.f, t.t)) =
      some (0x00, 0x00, 4) := by
  decide +kernel

/-- Vector RS6: `RLA`. -/
theorem test_RS6_rla :
    (after [0x17] (on fun g => { g with a := 0x95, f := 0x10 })).map (fun t => (t.regs.a, t.regs.f, t.t)) =
      some (0x2B, 0x10, 4) := by
  decide +kernel

/-- Vector RS15: `RLC [HL]`. -/
theorem test_RS15_rlc_at_hl :
    (after [0xCB, 0x06] (put 0xC100 0x00 (on fun g => { g with h := 0xC1, l := 0x00, f := 0x10 }))).map (fun t => (busRead 0xC100 t, t.regs.f, t.t)) =
      some (some 0x00, 0x80, 16) := by
  decide +kernel

/-- Vector RS16: `RRC C`. -/
theorem test_RS16_rrc_c :
    (after [0xCB, 0x09] (on fun g => { g with c := 0x01 })).map (fun t => (t.regs.c, t.regs.f, t.t)) =
      some (0x80, 0x10, 8) := by
  decide +kernel

/-- Vector RS18: `RL L`. -/
theorem test_RS18_rl_l :
    (after [0xCB, 0x15] (on fun g => { g with l := 0x80, f := 0x00 })).map (fun t => (t.regs.l, t.regs.f, t.t)) =
      some (0x00, 0x90, 8) := by
  decide +kernel

/-- Vector RS22: `RR A`. -/
theorem test_RS22_rr_a :
    (after [0xCB, 0x1F] (on fun g => { g with a := 0x01, f := 0x00 })).map (fun t => (t.regs.a, t.regs.f, t.t)) =
      some (0x00, 0x90, 8) := by
  decide +kernel

/-- Vector RS31: `SRA B`. -/
theorem test_RS31_sra_b :
    (after [0xCB, 0x28] (on fun g => { g with b := 0x80 })).map (fun t => (t.regs.b, t.regs.f, t.t)) =
      some (0xC0, 0x00, 8) := by
  decide +kernel

/-- Vector RS34: `SWAP L`. -/
theorem test_RS34_swap_l :
    (after [0xCB, 0x35] (on fun g => { g with l := 0xA5, f := 0x10 })).map (fun t => (t.regs.l, t.regs.f, t.t)) =
      some (0x5A, 0x00, 8) := by
  decide +kernel

/-- Vector RS36: `SWAP [HL]`. -/
theorem test_RS36_swap_at_hl :
    (after [0xCB, 0x36] (put 0xC100 0xF0 (on fun g => { g with h := 0xC1, l := 0x00 }))).map (fun t => (busRead 0xC100 t, t.regs.f, t.t)) =
      some (some 0x0F, 0x00, 16) := by
  decide +kernel

/-- Vector RS38: `SRL B`. -/
theorem test_RS38_srl_b :
    (after [0xCB, 0x38] (on fun g => { g with b := 0x80, f := 0x10 })).map (fun t => (t.regs.b, t.regs.f, t.t)) =
      some (0x40, 0x00, 8) := by
  decide +kernel

/-- Vector T4b: `BIT 4,H`. -/
theorem test_T4b_bit_4_h :
    (after [0xCB, 0x64] (on fun g => { g with h := 0xEF, f := 0x10 })).map (fun t => (t.regs.h, t.regs.f, t.t)) =
      some (0xEF, 0xB0, 8) := by
  decide +kernel

/-- Vector T6b: `BIT 7,[HL]`. -/
theorem test_T6b_bit_7_at_hl :
    (after [0xCB, 0x7E] { (on fun g => { g with h := 0xFF, l := 0x0F }) with iflag := 0x00 }).map (fun t => (t.regs.f, t.t)) =
      some (0x20, 12) := by
  decide +kernel

/-- Vector T7b: `RES 7,A`. -/
theorem test_T7b_res_7_a :
    (after [0xCB, 0xBF] (on fun g => { g with a := 0xFF, f := 0xF0 })).map (fun t => (t.regs.a, t.regs.f, t.t)) =
      some (0x7F, 0xF0, 8) := by
  decide +kernel

/-- Vector T10b: `RES 0,[HL]`. -/
theorem test_T10b_res_0_at_hl :
    (after [0xCB, 0x86] { (on fun g => { g with h := 0xFF, l := 0x0F }) with iflag := 0x1F }).map (fun t => (t.iflag, t.t)) =
      some (0x1E, 16) := by
  decide +kernel

/-- Vector T13b: `SET 3,[HL]`. -/
theorem test_T13b_set_3_at_hl :
    (after [0xCB, 0xDE] (put 0xC100 0x00 (on fun g => { g with h := 0xC1, l := 0x00 }))).map (fun t => (busRead 0xC100 t, t.t)) =
      some (some 0x08, 16) := by
  decide +kernel

/-- Vector M5: `DAA`. -/
theorem test_M5_daa :
    (after [0x27] (on fun g => { g with a := 0x9A, f := 0x00 })).map (fun t => (t.regs.a, t.regs.f, t.t)) =
      some (0x00, 0x90, 4) := by
  decide +kernel

/-- Vector M15: `DAA`. -/
theorem test_M15_daa :
    (after [0x27] (on fun g => { g with a := 0x9A, f := 0x70 })).map (fun t => (t.regs.a, t.regs.f, t.t)) =
      some (0x34, 0x50, 4) := by
  decide +kernel

/-- Vector M20: `CPL`. -/
theorem test_M20_cpl :
    (after [0x2F] (on fun g => { g with a := 0x00, f := 0x90 })).map (fun t => (t.regs.a, t.regs.f, t.t)) =
      some (0xFF, 0xF0, 4) := by
  decide +kernel

/-- Vector M22: `SCF`. -/
theorem test_M22_scf :
    (after [0x37] (on fun g => { g with f := 0x60 })).map (fun t => (t.regs.f, t.t)) =
      some (0x10, 4) := by
  decide +kernel

/-- Vector M26: `CCF`. -/
theorem test_M26_ccf :
    (after [0x3F] (on fun g => { g with f := 0xE0 })).map (fun t => (t.regs.f, t.t)) =
      some (0x90, 4) := by
  decide +kernel

/-- Vector L4: `LD H,[HL]`. -/
theorem test_L4_ld_h_at_hl :
    (after [0x66] (put 0xC100 0xD0 (on fun g => { g with h := 0xC1, l := 0x00 }))).map (fun t => (t.get16 .hl, t.t)) =
      some (0xD000, 8) := by
  decide +kernel

/-- Vector L6: `LD [HL],L`. -/
theorem test_L6_ld_at_hl_l :
    (after [0x75] (on fun g => { g with h := 0xC1, l := 0xA7 })).map (fun t => (busRead 0xC1A7 t, t.t)) =
      some (some 0xA7, 8) := by
  decide +kernel

/-- Vector L7: `LD [HL],n8`. -/
theorem test_L7_ld_at_hl_n8 :
    (after [0x36, 0x99] (on fun g => { g with h := 0xC1, l := 0x00 })).map (fun t => (busRead 0xC100 t, t.t)) =
      some (some 0x99, 12) := by
  decide +kernel

/-- Vector L9: `LD A,[HL+]`. -/
theorem test_L9_ld_a_at_hli :
    (after [0x2A] { (on fun g => { g with h := 0xFF, l := 0xFF }) with ie := 0x15 }).map (fun t => (t.regs.a, t.get16 .hl, t.t)) =
      some (0xF5, 0x0000, 8) := by
  decide +kernel

/-- Vector L13: `LD [HL-],A`. -/
theorem test_L13_ld_at_hld_a :
    (after [0x32] (on fun g => { g with h := 0xC0, l := 0x00, a := 0x05 })).map (fun t => (busRead 0xC000 t, t.get16 .hl, t.t)) =
      some (some 0x05, 0xBFFF, 8) := by
  decide +kernel

/-- Vector L15: `LD A,[n16]`. -/
theorem test_L15_ld_a_at_n16 :
    (after [0xFA, 0x00, 0xE0] start).map (fun t => (t.regs.a, t.t)) =
      some (0xFA, 16) := by
  decide +kernel

/-- Vector L16: `LD [n16],A`. -/
theorem test_L16_ld_at_n16_a :
    (after [0xEA, 0x06, 0xFF] (on fun g => { g with a := 0x12 })).map (fun t => (t.timer.tma, t.t)) =
      some (0x12, 16) := by
  decide +kernel

/-- Vector L18: `LDH A,[n8]`. -/
theorem test_L18_ldh_a_at_n8 :
    (after [0xF0, 0x04] { start with timer := { start.timer with divCounter := 0xAB00 } }).map (fun t => (t.regs.a, t.t)) =
      some (0xAB, 12) := by
  decide +kernel

/-- Vector L21: `LDH [n8],A`. -/
theorem test_L21_ldh_at_n8_a :
    (after [0xE0, 0x0F] (on fun g => { g with a := 0xFF })).map (fun t => (t.iflag, t.t)) =
      some (0x1F, 12) := by
  decide +kernel

/-- Vector L23: `LDH A,[C]`. -/
theorem test_L23_ldh_a_at_c :
    (after [0xF2] { (on fun g => { g with c := 0xFF }) with ie := 0x1F }).map (fun t => (t.regs.a, t.t)) =
      some (0xFF, 8) := by
  decide +kernel

/-- Vector L28: `LD [n16],SP`. -/
theorem test_L28_ld_at_n16_sp :
    (after [0x08, 0xFF, 0xFF] (on fun g => { g with sp := 0x1203 })).map (fun t => (t.ie, t.t)) =
      some (0x03, 20) := by
  decide +kernel

/-- Vector L30: `LD HL,SP+e8`. -/
theorem test_L30_ld_hl_sp_e8 :
    (after [0xF8, 0x02] (on fun g => { g with sp := 0xFFF8, f := 0xF0 })).map (fun t => (t.get16 .hl, t.regs.sp, t.regs.f, t.t)) =
      some (0xFFFA, 0xFFF8, 0x00, 12) := by
  decide +kernel

/-- Vector J2: `JP Z,n16`. -/
theorem test_J2_jp_z_n16 :
    (after [0xCA, 0x00, 0x80] (on fun g => { g with f := 0x80, pc := 0x0200 })).map (fun t => (t.regs.pc, t.t)) =
      some (0x8000, 16) := by
  decide +kernel

/-- Vector J3: `JP Z,n16`. -/
theorem test_J3_jp_z_n16 :
    (after [0xCA, 0x00, 0x80] (on fun g => { g with f := 0x00, pc := 0x0200 })).map (fun t => (t.regs.pc, t.t)) =
      some (0x0203, 12) := by
  decide +kernel

/-- Vector J6: `JP HL`. -/
theorem test_J6_jp_hl :
    (after [0xE9] (on fun g => { g with h := 0xFF, l := 0xFF })).map (fun t => (t.regs.pc, t.t)) =
      some (0xFFFF, 4) := by
  decide +kernel

/-- Vector J10: `JR e8`. -/
theorem test_J10_jr_e8 :
    (after [0x18, 0x80] start).map (fun t => (t.regs.pc, t.t)) =
      some (0xBF82, 12) := by
  decide +kernel

/-- Vector J17: `CALL NZ,n16`. -/
theorem test_J17_call_nz_n16 :
    (after [0xC4, 0x00, 0x20] (on fun g => { g with f := 0x00, sp := 0xD000 })).map (fun t => (t.regs.pc, t.regs.sp, busRead 0xCFFF t, busRead 0xCFFE t, t.t)) =
      some (0x2000, 0xCFFE, some 0xC0, some 0x03, 24) := by
  decide +kernel

/-- Vector J20: `CALL n16`. -/
theorem test_J20_call_n16 :
    (after [0xCD, 0x00, 0x01] (on fun g => { g with sp := 0x8001 })).map (fun t => (t.regs.pc, t.regs.sp, busRead 0x8000 t, t.t)) =
      some (0x0100, 0x7FFF, some 0xC0, 24) := by
  decide +kernel

/-- Vector J23: `RET NZ`. -/
theorem test_J23_ret_nz :
    (after [0xC0] (put 0xFFFD 0x80 (put 0xFFFC 0x03 (on fun g => { g with f := 0x00, sp := 0xFFFC })))).map (fun t => (t.regs.pc, t.regs.sp, t.t)) =
      some (0x8003, 0xFFFE, 20) := by
  decide +kernel

/-- Vector J25: `RET NC`. -/
theorem test_J25_ret_nc :
    (after [0xD0] (on fun g => { g with f := 0x10, sp := 0xC100 })).map (fun t => (t.regs.pc, t.regs.sp, t.t)) =
      some (0xC001, 0xC100, 8) := by
  decide +kernel

/-- Vector J27: `RETI`. -/
theorem test_J27_reti :
    (after [0xD9] (put 0xFFFE 0x34 { { (on fun g => { g with sp := 0xFFFE }) with ime := false } with ie := 0x05 })).map (fun t => (t.regs.pc, t.regs.sp, t.ime, t.t)) =
      some (0xE534, 0x0000, true, 16) := by
  decide +kernel

/-- Vector J30: `RST 0x00`. -/
theorem test_J30_rst_0x00 :
    (after [0xC7] { (on fun g => { g with sp := 0x0001 }) with ie := 0x00 }).map (fun t => (t.regs.pc, t.regs.sp, t.ie, t.t)) =
      some (0x0000, 0xFFFF, 0x01, 16) := by
  decide +kernel

/-- Vector K1: `PUSH AF`. -/
theorem test_K1_push_af :
    (after [0xF5] (on fun g => { g with a := 0x12, f := 0xB0, sp := 0xD000 })).map (fun t => (t.regs.sp, busRead 0xCFFF t, busRead 0xCFFE t, t.t)) =
      some (0xCFFE, some 0x12, some 0xB0, 16) := by
  decide +kernel

/-- Vector K2: `POP AF`. -/
theorem test_K2_pop_af :
    (after [0xF1] (put 0xC101 0x12 (put 0xC100 0xFF (on fun g => { g with sp := 0xC100 })))).map (fun t => (t.regs.a, t.regs.f, t.regs.sp, t.t)) =
      some (0x12, 0xF0, 0xC102, 12) := by
  decide +kernel

/-- Vector K5: `POP HL`. -/
theorem test_K5_pop_hl :
    (after [0xE1] (put 0x0000 0x31 { (on fun g => { g with sp := 0xFFFF }) with ie := 0x05 })).map (fun t => (t.get16 .hl, t.regs.sp, t.t)) =
      some (0x31E5, 0x0001, 12) := by
  decide +kernel

/-- Vector K7: `POP BC`. -/
theorem test_K7_pop_bc :
    (after [0xC1] (put 0xFE9F 0x77 (on fun g => { g with sp := 0xFE9F }))).map (fun t => (t.get16 .bc, t.regs.sp, t.t)) =
      some (0xFF77, 0xFEA1, 12) := by
  decide +kernel

/-! The system instructions, interrupts, faults, the timer and the bus. -/

/-- S7: NOP takes 4 T-cycles and changes no register but PC. -/
theorem test_S7_nop :
    (after [0x00] start).map (fun t => (t.regs, t.t, t.timer.divCounter)) = some ({ start.regs with pc := 0xC001 }, 4, 4) := by
  decide +kernel

/-- The example of R274. -/
theorem test_R274_stop :
    (after [0x10, 0x00] start).map (fun t => (t.regs.pc, t.halted, t.t)) = some (0xC002, true, 8) := by
  decide +kernel

/-- I9, first step: HALT with a request pending still moves PC past itself. -/
theorem test_I9_halt :
    (after [0x76] { start with iflag := 1, ie := 1 }).map (fun t => (t.regs.pc, t.halted, t.t)) = some (0xC001, true, 4) := by
  decide +kernel

/-- I9, second step: it wakes at once and runs INC B. -/
theorem test_I9_wake :
    (after [0x04] { start with iflag := 1, ie := 1, halted := true }).map (fun t => (t.regs.pc, t.regs.b, t.halted, t.iflag)) =
      some (0xC001, 1, false, 1) := by
  decide +kernel

/-- I4, step 1: EI schedules the enable. -/
theorem test_I4_ei :
    (after [0xFB] { start with iflag := 1, ie := 1 }).map (fun t => (t.ime, t.imePending)) = some (false, true) := by
  decide +kernel

/-- I5, step 2: DI after EI leaves both off. -/
theorem test_I5_di :
    (after [0xF3] { start with iflag := 1, ie := 1, imePending := true }).map (fun t => (t.ime, t.imePending, t.regs.pc)) =
      some (false, false, 0xC001) := by
  decide +kernel

/-- I1: the dispatch of VBlank with LCD-STAT pending as well. -/
theorem test_I1_dispatch :
    (after [] { (on fun g => { g with pc := 0x1234, sp := 0xD000 }) with iflag := 3, ie := 3, ime := true }).map
      (fun t => ((t.regs.pc, t.regs.sp), (busRead 0xCFFF t, busRead 0xCFFE t), (t.iflag, t.ime, t.t))) =
      some ((0x0040, 0xCFFE), (some 0x12, some 0x34), (2, false, 20)) := by
  decide +kernel

/-- F1: an illegal byte; the state at the fault has PC past it, and 4 T-cycles have passed. -/
theorem test_F1_illegal :
    (stops [0xDD] (on fun g => { g with pc := 0x0150 })).map
      (fun f => match f with
        | .illegalOpcode addr op fr => (addr, op, fr.regs.pc, fr.t)
        | .unmappedAddress addr fr => (addr, 0, fr.regs.pc, 0)) = some (0x0150, 0xDD, 0x0151, 4) := by
  decide +kernel

/-- F4: the second write of a push faults; SP has gone down twice and the first byte is stored. -/
theorem test_F4_push :
    (stops [0xC5] (on fun g => { g with sp := 0xFF81, b := 0xAA, c := 0x55 })).map
      (fun f => match f with
        | .unmappedAddress addr fr => (addr, fr.regs.sp, busRead 0xFF80 fr, fr.t)
        | .illegalOpcode addr _ fr => (addr, fr.regs.sp, none, 0)) = some (0xFF7F, 0xFF7F, some 0xAA, 16) := by
  decide +kernel

/-- T2: the T-cycle that wraps TIMA, the window, and the reload with the request. -/
theorem test_T2_reload :
    [15, 16, 19, 20].map (fun n =>
      let t := ticks n { start with timer := { start.timer with tima := 0xFF, tma := 0x12, tac := 0b101 } }
      (t.timer.tima, t.timer.overflowPending, t.timer.reloadDelay, t.iflag)) =
      [(0xFF, false, 0, 0), (0x00, true, 4, 0), (0x00, true, 1, 0), (0x12, false, 0, 4)] := by
  decide +kernel

/-- T5, two rows: disabling while the watched bit is 1 counts, enabling does not. -/
theorem test_T5_tac_write :
    [(0b101#3, 0x01), (0b001#3, 0x05)].map (fun x =>
      (busWrite 0xFF07 x.2 { start with timer := { start.timer with tac := x.1, divCounter := 0x0008, tima := 0x10 } }).map
        fun t => (t.timer.tima, busRead 0xFF07 t)) = [some (0x11, some 0xF9), some (0x10, some 0xFD)] := by
  decide +kernel

/-- B1 and B3: the echo is WRAM, the unusable region reads 0xFF. -/
theorem test_B1_echo :
    ((busWrite 0xE010 0x43 start).bind (busRead 0xC010), (busWrite 0xFEA0 0x99 start).bind (busRead 0xFEA0)) =
      (some 0x43, some 0xFF) := by
  decide +kernel

/-- B4: OAM and VRAM while the PPU mode at T-cycle 0 is Drawing. -/
theorem test_B4_drawing :
    let s := put 0xFE00 0x21 (put 0x8000 0x66 { start with inputs := { start.inputs with ppuMode := [(0, .drawing)] } })
    (busRead 0xFE00 s, busRead 0x8000 s, (busWrite 0x8000 0x77 s).bind fun t => busRead 0x8000 { t with t := 1 }) =
      (some 0xFF, some 0xFF, some 0x66) := by
  decide +kernel

/-- The loading of an instruction where the next step fetches: `decL` is the first instruction after reset. -/
theorem test_withFetchWord :
    (nextOf (step (State.reset.withFetchWord 8 0x2D))).map (fun t => (t.regs.l, t.regs.pc)) = some (0x4C, 0x0101) := by
  decide +kernel

/-! Witnesses: concrete states and operands that meet the hypotheses of a statement, clause by clause, at the ends of ranges. -/

/-- WRAM holds the code `JR NZ,5`, the pointers BC, DE, HL and SP point to listed bytes; Z, H and Cy are set. -/
def probe : State :=
  let g : Regs := { a := 0x12, f := 0xB0, b := 0xC1, c := 0x80, d := 0xC1, e := 0x10, h := 0xC1, l := 0x00, sp := 0xCFFE, pc := 0xC000 }
  put 0xC000 0x20 (put 0xC001 0x05 (put 0xC100 0x5C (put 0xC110 0x2F (put 0xC180 0x3A (put 0xCFFE 0x34 (put 0xCFFF 0x12
    (put 0xFF80 0x9A (on fun _ => g))))))))

/-- `probe` with all flags 0. -/
def probe0 : State := { probe with regs := { probe.regs with f := 0 } }

/-- A request is pending and enabled. -/
def requested (iflag ie : BitVec 5) (ime : Bool) : State := { probe with iflag := iflag, ie := ie, ime := ime }

theorem test_witness_ResetMeetsInvariants :
    Timer.ok { State.reset.timer with overflowPending := true, reloadDelay := 4 } ∧
      Timer.ok { State.reset.timer with overflowPending := true, reloadDelay := 1 } ∧
      Memory.wf [(0, 0x31), (0xDFFF, 1), (0xFE00, 2), (0xFE9F, 3), (0xFF80, 4), (0xFFFE, 5)] = true := by
  decide +kernel

theorem test_witness_StepKeepsInvariant : probe.inv ∧ ∃ t, step probe = .next t :=
  ⟨by decide +kernel, next_of_isSome (by decide +kernel)⟩

theorem test_witness_FlagLowNibbleStaysZero :
    (probe.flagsOk ∧ ∃ t, reaches 1 probe t) ∧ probe.plainStore (0x0000 - 1) = false ∧ probe.plainStore (0xFFFF - 1) = true ∧
      probe.plainStore (0xFFFF - 2) = true ∧ probe.plainStore (0xA002 - 1) = true ∧ probe.plainStore (0xA002 - 2) = true := by
  obtain ⟨t, ht⟩ := next_of_isSome (r := step probe) (by decide +kernel)
  exact ⟨⟨by decide +kernel, t, t, ht, rfl⟩, by decide +kernel⟩

theorem test_witness_StepKeepsDividerPhase :
    ({ probe with timer := { probe.timer with divCounter := 0xFFFC } } : State).phaseOk ∧ probe.phaseOk ∧ ∃ t, step probe = .next t :=
  ⟨by decide +kernel, by decide +kernel, next_of_isSome (by decide +kernel)⟩

theorem test_witness_InstructionLastsItsRowsMcycles :
    (probe.willFetch ∧ fetches (encode (.jrNzE8 5)) probe.atFetch ∧ tableMcycles (.jrNzE8 5) probe 2 ∧ ∃ t, step probe = .next t) ∧
      probe0.willFetch ∧ fetches (encode (.jrNzE8 5)) probe0.atFetch ∧ tableMcycles (.jrNzE8 5) probe0 3 ∧ ∃ t, step probe0 = .next t := by
  refine ⟨⟨⟨rfl, fun _ => rfl, fun _ => rfl⟩, ⟨by decide +kernel, by decide +kernel, trivial⟩,
      .inr ⟨rfl, .nz, .inr (.inl ⟨5, rfl⟩), by unfold condHolds; decide +kernel⟩, next_of_isSome (by decide +kernel)⟩,
    ⟨rfl, fun _ => rfl, fun _ => rfl⟩, ⟨by decide +kernel, by decide +kernel, trivial⟩, .inl ⟨rfl, fun cc h => ?_⟩,
    next_of_isSome (by decide +kernel)⟩
  cases cc
  · unfold condHolds; decide +kernel
  all_goals rcases h with ⟨n, h⟩ | ⟨e, h⟩ | ⟨n, h⟩ | h <;> simp [rowJpCc, rowJrCc, rowCallCc, rowRetCc] at h

theorem test_witness_DecodeInvertsEncode : Instr.wellFormed (.callNzN16 0xFFFF) = true ∧ Instr.wellFormed .nop = true := by decide

theorem test_witness_EncodeInvertsDecode : decode [0xCB, 0x37, 0x99] = .ok (.swapA, [0x99]) := by decide +kernel

theorem test_witness_OpcodesFollowTheFields : opnd8At 0 = .reg .b ∧ opnd8At 7 = .reg .a := by decide

theorem test_witness_StepRunsTheDecodedInstruction :
    Instr.wellFormed (.jrNzE8 5) = true ∧ (requested 1 1 false).willFetch ∧ fetches (encode (.jrNzE8 5)) (requested 1 1 false).atFetch :=
  ⟨rfl, ⟨rfl, fun _ => rfl, fun _ => rfl⟩, by decide +kernel, by decide +kernel, trivial⟩

theorem test_witness_PrefixRunsTheCbTable :
    decode [0xCB, 0x20] = .ok (.slaB, []) ∧ busRead probe.regs.pc (internal probe) = some 0x20 ∧ mapped probe.regs.pc = true ∧
      mapped probe.hl = true := by
  decide +kernel

theorem test_witness_LoadRegister : busRead probe.hl (internal probe) = some 0x5C := by decide +kernel

/-- The ends of the ranges in which an access has a device. -/
theorem test_witness_StoreAtHl :
    [0x0000, 0x7FFF, 0x8000, 0xFE9F, 0xFEFF, 0xFF00, 0xFF02, 0xFF04, 0xFF07, 0xFF0F, 0xFF40, 0xFF4B, 0xFF80, 0xFFFE, 0xFFFF].all
      (fun a => mapped a) = true := by
  decide +kernel

theorem test_witness_LoadAccumulator :
    busRead (probe.get16 .bc) (internal probe) = some 0x3A ∧ busRead (probe.get16 .de) (internal probe) = some 0x2F ∧
      busRead 0xC100 (internal probe) = some 0x5C ∧ busRead (0xFF00 + (0xFF : Byte).setWidth 16) (internal probe) = some 0xE0 ∧
      busRead (0xFF00 + probe.regs.c.setWidth 16) (internal probe) = some 0x9A := by
  decide +kernel

theorem test_witness_StoreAccumulator :
    mapped (probe.get16 .bc) = true ∧ mapped (probe.get16 .de) = true ∧ mapped 0xFFFF = true ∧
      mapped (0xFF00 + (0x00 : Byte).setWidth 16) = true ∧ mapped (0xFF00 + probe.regs.c.setWidth 16) = true := by
  decide +kernel

theorem test_witness_PostModifyLoadsAndStores :
    busRead probe.hl (internal probe) = some 0x5C ∧ mapped probe.hl = true ∧ mapped 0x0000 = true ∧ mapped 0xFFFF = true := by
  decide +kernel

theorem test_witness_LoadPair : (probe.hl = 0xC100) ∧ (0xFFFF : Word) ≠ probe.hl := by decide +kernel

theorem test_witness_StoreStackPointer : mapped 0xFFFF = true ∧ mapped (0xFFFF + 1) = true ∧ mapped 0xC100 = true ∧ mapped (0xC100 + 1) = true := by
  decide +kernel

/-- The three forms of the ALU family, here ADC with the carry set and clear. -/
theorem test_witness_AddToAccumulator :
    ((AluOp.adc = .add ∧ 1 = 0) ∨ (AluOp.adc = .adc ∧ 1 = probe.cf.toNat)) ∧
      ((AluOp.add = .add ∧ 0 = 0) ∨ (AluOp.add = .adc ∧ 0 = probe.cf.toNat)) ∧ probe0.cf = false ∧
      aluForm .adc (rowAluReg .adc .a) 0x12 0 probe ∧ aluForm .add (rowAluN8 .add 0xFF) 0xFF 0 probe ∧
      aluForm .add (rowAluAtHl .add) 0x5C 1 probe :=
  ⟨by decide +kernel, .inl ⟨rfl, rfl⟩, by decide +kernel, .inl ⟨.a, rfl, by decide +kernel, rfl⟩, .inr (.inl ⟨rfl, rfl⟩),
    .inr (.inr ⟨rfl, by decide +kernel, rfl⟩)⟩

theorem test_witness_SubtractFromAccumulator :
    ((AluOp.sbc = .sub ∧ 1 = 0) ∨ (AluOp.sbc = .sbc ∧ 1 = probe.cf.toNat)) ∧
      ((AluOp.sub = .sub ∧ 0 = 0) ∨ (AluOp.sub = .sbc ∧ 0 = probe.cf.toNat)) ∧
      aluForm .sbc (rowAluReg .sbc .a) 0x12 0 probe ∧ aluForm .sub (rowAluN8 .sub 0x00) 0x00 0 probe ∧
      aluForm .sbc (rowAluAtHl .sbc) 0x5C 1 probe :=
  ⟨by decide +kernel, .inl ⟨rfl, rfl⟩, .inl ⟨.a, rfl, by decide +kernel, rfl⟩, .inr (.inl ⟨rfl, rfl⟩),
    .inr (.inr ⟨rfl, by decide +kernel, rfl⟩)⟩

theorem test_witness_CompareWithAccumulator :
    aluForm .cp (rowAluReg .cp .a) 0x12 0 probe ∧ aluForm .cp (rowAluN8 .cp 0x12) 0x12 0 probe ∧
      aluForm .cp (rowAluAtHl .cp) 0x5C 1 probe :=
  ⟨.inl ⟨.a, rfl, by decide +kernel, rfl⟩, .inr (.inl ⟨rfl, rfl⟩), .inr (.inr ⟨rfl, by decide +kernel, rfl⟩)⟩

theorem test_witness_LogicOnAccumulator :
    ((0x10 : Byte) = probe.regs.a &&& 0x5C ∧ (0x5E : Byte) = probe.regs.a ||| 0x5C ∧ (0x4E : Byte) = probe.regs.a ^^^ 0x5C) ∧
      aluForm .and (rowAluAtHl .and) 0x5C 1 probe ∧ aluForm .or (rowAluN8 .or 0x5C) 0x5C 0 probe ∧
      aluForm .xor (rowAluReg .xor .a) 0x12 0 probe :=
  ⟨by decide +kernel, .inr (.inr ⟨rfl, by decide +kernel, rfl⟩), .inr (.inl ⟨rfl, rfl⟩), .inl ⟨.a, rfl, by decide +kernel, rfl⟩⟩

/-- The byte at HL, for the read-modify-write forms (also of the rotates and of RES and SET), and 0xFF. -/
theorem test_witness_IncDecAtHl :
    busRead probe.hl (internal probe) = some 0x5C ∧
      busRead (put 0xC100 0xFF probe).hl (internal (put 0xC100 0xFF probe)) = some 0xFF := by
  decide +kernel

theorem test_witness_PairArithmetic :
    (0xC101 = ((probe.get16 .hl).toNat + 1) % 65536) ∧ 0xC0FF = ((probe.get16 .hl).toNat + 65535) % 65536 := by
  decide +kernel

theorem test_witness_RotateAndShift : busRead probe.hl (internal probe) = some 0x5C := by decide +kernel

theorem test_witness_RotateAccumulator :
    rotNat .rl 0x80 1 = (0x01, 1) ∧ rotNat .rr 0x01 0 = (0x00, 1) ∧ rotNat .rlc 0x85 0 = (0x0B, 1) ∧ rotNat .rrc 0x3B 0 = (0x9D, 1) := by
  decide

theorem test_witness_BitTest :
    (∃ r, rowBitReg 7 .a = rowBitReg 7 r ∧ (0x12 : Byte) = probe.get8 r ∧ 0 = 0) ∧ busRead probe.hl (internal probe) = some 0x5C :=
  ⟨⟨.a, rfl, by decide +kernel, rfl⟩, by decide +kernel⟩

theorem test_witness_ResAndSetBits : busRead probe.hl (internal probe) = some 0x5C := by decide +kernel

theorem test_witness_DecimalAdjustAfterAddition :
    (0x99 : Byte).toNat = 99 / 10 * 16 + 99 % 10 ∧ (0x00 : Byte).toNat = 0 / 10 * 16 + 0 % 10 ∧ probe.cf.toNat = 1 ∧ probe.regs.a.toNat = 12 / 10 * 16 + 12 % 10 := by
  decide +kernel

theorem test_witness_Jumps :
    condHolds .z probe ∧ condHolds .c probe ∧ ¬ condHolds .nz probe ∧ ¬ condHolds .nc probe ∧ condHolds .nz probe0 ∧
      condHolds .nc probe0 ∧ ¬ condHolds .z probe0 ∧ ¬ condHolds .c probe0 := by
  simp only [condHolds]
  decide +kernel

theorem test_witness_CallsAndRestarts :
    mapped (probe.regs.sp - 1) = true ∧ mapped (probe.regs.sp - 2) = true ∧ mapped (0x0000 - 1) = true ∧ mapped (0x0000 - 2) = true ∧
      mapped (0x0001 - 1) = true ∧ mapped (0x0001 - 2) = true := by
  decide +kernel

/-- The word on the stack, at once and after one M-cycle; with SP = 0xFFFF the low byte is IE and the high byte is at 0x0000. -/
theorem test_witness_Returns :
    probe.pops 0 0x1234 ∧ probe.pops 1 0x1234 ∧ (put 0x0000 0x31 { probe with regs := { probe.regs with sp := 0xFFFF } }).pops 0 0x31E0 :=
  ⟨⟨by decide +kernel, by decide +kernel⟩, ⟨by decide +kernel, by decide +kernel⟩, by decide +kernel, by decide +kernel⟩

theorem test_witness_PushPair : mapped (probe.regs.sp - 1) = true ∧ mapped (probe.regs.sp - 2) = true := by decide +kernel

theorem test_witness_PopPair : probe.pops 0 0x1234 := ⟨by decide +kernel, by decide +kernel⟩

theorem test_witness_PushThenPopRestores :
    probe.plainStore (probe.regs.sp - 1) = true ∧ probe.plainStore (probe.regs.sp - 2) = true ∧ Reg16Stk.hl ≠ .af := by
  decide +kernel

theorem test_witness_IllegalRowsStop : probe.running ∧ (Instr.illegalD3, (0xD3 : Byte)) ∈ illegalRows := by decide +kernel

theorem test_witness_IllegalOpcodeOnlyFromIllegalBytes :
    ((put 0xC000 0xFD probe).willFetch ∧ busRead 0xC000 (internal (put 0xC000 0xFD probe).atFetch) = some 0xFD ∧
        (0xFD : Byte) ∈ illegalRows.map Prod.snd) ∧
      (stops [0xFD] probe).map (fun f => match f with
        | .illegalOpcode addr op _ => (addr, op)
        | .unmappedAddress addr _ => (addr, 0)) = some (0xC000, 0xFD) :=
  ⟨⟨⟨by decide +kernel, fun _ => by decide +kernel, fun _ => by decide +kernel⟩, by decide +kernel, by decide +kernel⟩, by decide +kernel⟩

theorem test_witness_FaultLatchFreezes :
    ({ probe with fault := some (.unmappedAddress 0xFF03) } : State).fault = some (.unmappedAddress 0xFF03) ∧ probe.fault = none ∧
      ∃ t, step probe = .next t :=
  ⟨rfl, by decide +kernel, next_of_isSome (by decide +kernel)⟩

/-- `JP n16`, `RLC B` and `STOP` where the range without a device begins after one or two of their bytes; the joypad register answers
the opcode bytes. -/
def atEdge (pc : Word) (bytes : List Byte) : State :=
  { probe with
    regs := { probe.regs with pc := pc }
    inputs := { probe.inputs with extIo := [4, 8].zip bytes } }

/-- The ends of the ranges without a device, and their neighbours; a fetch of an opcode, of a second and of a third byte there. -/
theorem test_witness_UnmappedAccessFaults :
    [0xFF03, 0xFF08, 0xFF0E, 0xFF10, 0xFF3F, 0xFF4C, 0xFF7F].all (fun a => !mapped a) = true ∧
      [0xFF02, 0xFF04, 0xFF07, 0xFF0F, 0xFF40, 0xFF4B, 0xFF80].all (fun a => mapped a) = true ∧
      ({ probe with regs := { probe.regs with pc := 0xFF7F } } : State).willFetch ∧
      (encode .rlcB = [0xCB] ++ [0x00] ∧ (atEdge 0xFF02 [0xCB]).willFetch ∧ fetches [0xCB] (atEdge 0xFF02 [0xCB]).atFetch ∧
        mapped (0xFF02 + BitVec.ofNat 16 1) = false) ∧
      (encode (.stop 0x77) = [0x10] ++ [0x77] ∧ fetches [0x10] (atEdge 0xFF4B [0x10]).atFetch ∧
        mapped (0xFF4B + BitVec.ofNat 16 1) = false) ∧
      encode (.jpN16 0x1234) = [0xC3, 0x34] ++ [0x12] ∧ fetches [0xC3, 0x34] (atEdge 0xFF01 [0xC3, 0x34]).atFetch ∧
        mapped (0xFF01 + BitVec.ofNat 16 2) = false :=
  ⟨by decide +kernel, by decide +kernel, ⟨rfl, fun _ => rfl, fun _ => rfl⟩,
    ⟨rfl, ⟨rfl, fun _ => rfl, fun _ => rfl⟩, ⟨by decide +kernel, trivial⟩, by decide +kernel⟩,
    ⟨rfl, ⟨by decide +kernel, trivial⟩, by decide +kernel⟩, rfl, ⟨by decide +kernel, by decide +kernel, trivial⟩, by decide +kernel⟩

/-- SP where the first or the second access of a push or a pop has no device, HL at one, and a store whose second byte has none. -/
theorem test_witness_FaultingAccessEndsTheInstruction :
    (probe.running ∧ accessesFirst .incAtHl { probe with regs := { probe.regs with h := 0xFF, l := 0x10 } } 0xFF10 ∧ mapped 0xFF10 = false) ∧
      (mapped 0xFF02 = true ∧ mapped (0xFF02 + 1) = false) ∧
      (pushForm .pushBc 0xC180 probe ∧ mapped (0xFF80 - 1) = false ∧ mapped (0xFF81 - 1) = true ∧ mapped (0xFF81 - 2) = false) ∧
      (popForm .ret 0 probe ∧ popForm .retZ 1 probe ∧ mapped 0xFF7F = false ∧ mapped 0xFF4B = true ∧ mapped (0xFF4B + 1) = false) ∧
      (requested 1 1 true).ime = true ∧ priority (requested 1 1 true).pending = some .vblank :=
  ⟨⟨by decide +kernel, .inl ⟨by decide +kernel, .inr (.inr (.inr (.inr (.inr (.inl rfl)))))⟩, by decide +kernel⟩,
    by decide +kernel, ⟨.inl ⟨.bc, rfl, by decide +kernel⟩, by decide +kernel⟩,
    ⟨.inl ⟨.inr (.inl rfl), rfl⟩, .inr ⟨.z, by unfold condHolds; decide +kernel, rfl, rfl⟩, by decide +kernel⟩, by decide +kernel⟩

theorem test_witness_PendingAndPriority :
    (requested 0x1F 0x10 true).iflag = (requested 0x1F 0x10 false).iflag ∧ (requested 0x1F 0x10 true).ie = (requested 0x1F 0x10 false).ie ∧
      priority (requested 0x1F 0x10 true).pending = some .joypad ∧ priority (requested 0x1F 0x1F true).pending = some .vblank := by
  decide +kernel

theorem test_witness_InterruptDispatch :
    ((requested 0x1F 0x1F true).running ∧ (requested 0x1F 0x1F true).ime = true ∧ (requested 0x1F 0x1F true).pending.getLsbD IntKind.vblank.num = true ∧
      ∀ j < IntKind.vblank.num, (requested 0x1F 0x1F true).pending.getLsbD j = false) ∧
      (requested 0x1F 0x10 true).pending.getLsbD IntKind.joypad.num = true ∧
      (∀ j < IntKind.joypad.num, (requested 0x1F 0x10 true).pending.getLsbD j = false) ∧
      mapped (probe.regs.sp - 1) = true ∧ mapped (probe.regs.sp - 2) = true := by
  decide +kernel

theorem test_witness_EnableTakesEffectAfterOneInstruction :
    let s := { requested 1 1 false with imePending := true }
    (s.running ∧ s.ime = false ∧ s.imePending = true ∧ (s.pending = 0 → s.halted = false) ∧ fetches (encode (.jrNzE8 5)) s.atFetch) ∧
      (requested 1 1 true).running ∧ (requested 1 1 true).ime = true ∧ (requested 1 1 true).pending ≠ 0 ∧
      ∃ t, step (requested 1 1 true) = .next t :=
  ⟨⟨rfl, rfl, rfl, fun _ => rfl, by decide +kernel, by decide +kernel, trivial⟩, rfl, rfl, by decide +kernel,
    next_of_isSome (by decide +kernel)⟩

theorem test_witness_HaltedIdlesUntilPending :
    ({ probe with halted := true } : State).running ∧ ({ probe with halted := true } : State).pending = 0 ∧
      (requested 1 1 false).pending ≠ 0 ∧ (requested 1 1 true).pending ≠ 0 := by
  decide +kernel

theorem test_witness_WramEchoUnusableHram :
    (∃ t, busWrite 0xDDFF 0x42 probe = some t) ∧ (0xDDFF : Word) ≠ 0xDE00 ∧
      [0xC000, 0xDFFF].all (fun a : Word => decide (0xC000 ≤ a.toNat) && decide (a.toNat < 0xE000)) = true ∧
      [0xFF80, 0xFFFE].all (fun a : Word => decide (0xFF80 ≤ a.toNat) && decide (a.toNat < 0xFFFF)) = true ∧
      [0xE000, 0xFDFF].all (fun a : Word => decide (0xE000 ≤ a.toNat) && decide (a.toNat < 0xFE00)) = true ∧
      [0xFEA0, 0xFEFF].all (fun a : Word => decide (0xFEA0 ≤ a.toNat) && decide (a.toNat < 0xFF00)) = true :=
  ⟨⟨_, rfl⟩, by decide, by decide, by decide, by decide, by decide⟩

/-- The state in a PPU mode for its first T-cycle. -/
def inMode (m : PpuMode) : State := { probe with inputs := { probe.inputs with ppuMode := [(0, m)] } }

theorem test_witness_OamGatedByPpuMode :
    (inMode .oamScan).ppuMode = .oamScan ∧ (inMode .drawing).ppuMode = .drawing ∧ probe.ppuMode = .other ∧
      [0xFE00, 0xFE9F].all (fun a : Word => decide (0xFE00 ≤ a.toNat) && decide (a.toNat < 0xFEA0)) = true := by
  decide +kernel

/-- The T-cycle before TIMA wraps. -/
def aboutToWrap : State := { probe with timer := { probe.timer with divCounter := 0x000F, tima := 0xFF, tma := 0x12, tac := 0b101 } }

/-- The three wraps of TIMA: by the counter, by a write to DIV, by a write to TAC that disables the timer; each arms the timer. -/
theorem test_witness_TimaReloadWindow :
    aboutToWrap.timer.overflowPending = false ∧ (tick aboutToWrap).timer.armed ∧
      (∃ u, busWrite 0xFF04 0x00 aboutToWrap = some u ∧ u.timer.armed ∧ (∃ t, busWrite 0xFF05 0x77 (ticks 0 u) = some t) ∧
        ∃ t, busWrite 0xFF06 0x99 (ticks 3 u) = some t) ∧
      ∃ u, busWrite 0xFF07 0x00 aboutToWrap = some u ∧ u.timer.armed :=
  ⟨by decide +kernel, by unfold Timer.armed; decide +kernel,
    ⟨_, rfl, by unfold Timer.armed; decide +kernel, busWrite_mapped (by decide) _ _, busWrite_mapped (by decide) _ _⟩,
    _, rfl, by unfold Timer.armed; decide +kernel⟩

/-- An outside request at the present T-cycle and one at the next; a reload that ends in this T-cycle. -/
theorem test_witness_McycleChangesTimerRequestsAndTimeOnly :
    let s := { probe with
      inputs := { probe.inputs with extIrq := [(1, .joypad), (0, .serial)] }
      timer := { probe.timer with overflowPending := true, reloadDelay := 1 } }
    (s.t, ExtKind.serial) ∈ s.inputs.extIrq ∧ s.timer.reloadDelay ≤ 1 ∧ s.iflag = 0b00000 ∧ (tick s).iflag = 0b01100 ∧
      (tick (tick s)).iflag = 0b11100 := by
  decide +kernel

theorem test_witness_TimaCountsOncePerPeriod :
    [0b100#3, 0b101#3, 0b110#3, 0b111#3].all (fun tac =>
      let s := { probe with timer := { probe.timer with tac := tac, tima := 0xFE } }
      s.timer.tac.getLsbD 2 && !s.timer.overflowPending && s.timer.tima != 0xFF) = true := by
  decide +kernel

theorem test_witness_BusWriteReachesOneCell :
    (∃ t, busWrite 0xC100 0x42 probe = some t) ∧ writesCell 0xC100 probe = true ∧ writesCell 0x7FFF probe = false ∧
      writesCell 0x8000 (inMode .drawing) = false ∧ writesCell 0x9FFF probe = true ∧ (inMode .drawing).ppuMode = .drawing ∧
      probe.ppuMode ≠ .drawing ∧ writesCell 0xA000 probe = true ∧ writesCell 0xBFFF probe = true ∧ probe.inputs.cartRam = .plain ∧
      probe.inputs.cartRom = .plain :=
  ⟨⟨_, rfl⟩, by decide +kernel⟩

theorem test_witness_StepsNeverChangeRom : probe.inputs.cartRom = .plain ∧ ∃ t, step probe = .next t :=
  ⟨by decide +kernel, next_of_isSome (by decide +kernel)⟩

/-- A cartridge other than the baseline, which answers 0x5A at T-cycle 4. -/
def banked : State := { probe with inputs := { probe.inputs with cartRom := .other, cartRam := .other, cart := [(4, 0x5A)] } }

theorem test_witness_OutsideDevicesOnTheBus :
    (banked.outsideAt 0x0000 ∧ banked.outsideAt 0x7FFF ∧ banked.outsideAt 0xA000 ∧ banked.outsideAt 0xBFFF) ∧
      (probe.outsideAt 0xFF00 ∧ probe.outsideAt 0xFF02 ∧ probe.outsideAt 0xFF40 ∧ probe.outsideAt 0xFF4B) ∧
      (¬ banked.outsideAt 0x8000 ∧ ¬ banked.outsideAt 0x9FFF ∧ ¬ banked.outsideAt 0xC000 ∧ ¬ banked.outsideAt 0xFF4C) ∧
      (¬ probe.outsideAt 0x0000 ∧ ¬ probe.outsideAt 0x7FFF ∧ ¬ probe.outsideAt 0xA000 ∧ ¬ probe.outsideAt 0xBFFF) ∧
      (∃ t, busWrite 0xC100 0x42 probe = some t) ∧ ∃ t, step probe = .next t := by
  unfold State.outsideAt
  refine ⟨?_, ?_, ?_, ?_, ⟨_, rfl⟩, next_of_isSome (by decide +kernel)⟩ <;> decide +kernel

/-- LD A,[HL] at 0x4000 of that cartridge gives its answer; LD [HL],A at 0x2000, a bank switch, is delivered to it. -/
theorem test_cartridge_other :
    (match exec .ldAAtHl { banked with regs := { banked.regs with h := 0x40, l := 0x00 } } with
      | .next t => some t.regs.a
      | _ => none) = some 0x5A ∧
      (match exec .ldAtHlA { banked with regs := { banked.regs with h := 0x20, l := 0x00 } } with
      | .next t => some (t.outputs, t.cartWrites)
      | _ => none) = some ([{ t := 4, addr := 0x2000, value := 0x12 }], [(0x2000, 0x12)]) := by
  decide +kernel

end Sys2Proof.Tests
end

section
/-! The register pairs as views of their halves (R12). -/

namespace Sys2Proof

theorem hiByte_eq_ofNat_div (w : Word) : hiByte w = BitVec.ofNat 8 (w.toNat / 256) := by
  rw [← toNat_hiByte, BitVec.ofNat_toNat, BitVec.setWidth_eq]

theorem loByte_eq_ofNat_mod (w : Word) : loByte w = BitVec.ofNat 8 (w.toNat % 256) := by
  rw [← toNat_loByte, BitVec.ofNat_toNat, BitVec.setWidth_eq]

namespace Machine

theorem set16_bc (s : State) (v : Word) : s.set16 .bc v = (s.set8 .b (hiByte v)).set8 .c (loByte v) := rfl

theorem set16_de (s : State) (v : Word) : s.set16 .de v = (s.set8 .d (hiByte v)).set8 .e (loByte v) := rfl

theorem set16_hl (s : State) (v : Word) : s.set16 .hl v = (s.set8 .h (hiByte v)).set8 .l (loByte v) := rfl

theorem setStk_af (s : State) (v : Word) :
    s.setStk .af v = { s with regs := { s.regs with a := hiByte v, f := loByte v &&& 0xF0 } } := rfl

/-- Settles O50. A read is `toNat_bytesToWord` at the pair's halves; a write is the two byte writes of `set16_bc` and its
companions, or `setStk_af`, with the halves as quotient and remainder by 256; the pairs BC, DE and HL of PUSH and POP are, by
definition, those of the 16-bit loads. -/
theorem pairsAreViews : Obligations.PairsAreViews := by
  intro s v
  rw [← hiByte_eq_ofNat_div v, ← loByte_eq_ofNat_mod v]
  exact ⟨toNat_bytesToWord _ _, toNat_bytesToWord _ _, toNat_bytesToWord _ _, toNat_bytesToWord _ _, rfl, rfl, rfl,
    set16_bc s v, set16_de s v, set16_hl s v, rfl, rfl, rfl, setStk_af s v⟩

end Machine

end Sys2Proof
end

section
/-! The bus ranges that a program uses as memory: WRAM with its echo, HRAM, OAM, and the unusable region (R46, R47, R49, R55). -/

namespace Sys2Proof.Machine

theorem plainStore_wram {addr : Word} (h : region addr = .wram) (s : State) : s.plainStore addr = true := by
  simp [State.plainStore, h]

theorem plainStore_echo {addr : Word} (h : region addr = .echo) (s : State) : s.plainStore addr = true := by
  simp [State.plainStore, h]

theorem plainStore_hram {addr : Word} (h : region addr = .hram) (s : State) : s.plainStore addr = true := by
  simp [State.plainStore, h]

/-- A plain store outside the echo is the cell at its own address, for reads and for writes. -/
theorem plain_access {s : State} {addr : Word} (h : s.plainStore addr = true) (he : region addr ≠ .echo) (v : Byte) :
    busRead addr s = some (s.cell addr.toNat) ∧ busWrite addr v s = some (s.setCell addr.toNat v) := by
  rw [plain_reads h, busWrite_cell v (plain_writes h), cellOf_eq_of_not_echo he]
  exact ⟨rfl, rfl⟩

/-- Two plain stores with the same cell behind them are the same store. -/
theorem plain_access_congr {s : State} {a b : Word} (ha : s.plainStore a = true) (hb : s.plainStore b = true)
    (hc : cellOf a = cellOf b) (v : Byte) : busRead a s = busRead b s ∧ busWrite a v s = busWrite b v s := by
  rw [plain_reads ha, plain_reads hb, busWrite_cell v (plain_writes ha), busWrite_cell v (plain_writes hb), hc]
  exact ⟨rfl, rfl⟩

theorem cellOf_echo {addr : Word} (h : region addr = .echo) : cellOf addr = addr.toNat - 0x2000 := by
  simp [cellOf, h]

theorem toNat_echo_sub {addr : Word} (h : region addr = .echo) : (addr - 0x2000).toNat = addr.toNat - 0x2000 := by
  obtain ⟨hlo, -⟩ := region_bounds h
  bv_omega

/-- The address 0x2000 below one in the echo is in WRAM (R46). -/
theorem region_echo_sub {addr : Word} (h : region addr = .echo) : region (addr - 0x2000) = .wram := by
  obtain ⟨hlo, hhi⟩ := region_bounds h
  have hsub := toNat_echo_sub h
  exact region_wram (by omega) (by omega)

/-- An address in the echo and the one 0x2000 lower have one cell behind them (R46). -/
theorem cellOf_echo_sub {addr : Word} (h : region addr = .echo) : cellOf (addr - 0x2000) = cellOf addr := by
  have hw : region (addr - 0x2000) ≠ .echo := by rw [region_echo_sub h]; decide
  rw [cellOf_eq_of_not_echo hw, toNat_echo_sub h, cellOf_echo h]

/-- The echo ends at 0xFDFF, so a cell of the last 0x200 bytes of WRAM is behind one address only (R46). -/
theorem cellOf_ne_of_unmirrored {addr other : Word} (hlo : 0xDE00 ≤ addr.toNat) (hne : other ≠ addr) :
    addr.toNat ≠ cellOf other := by
  by_cases he : region other = .echo
  · obtain ⟨-, hhi⟩ := region_bounds he
    rw [cellOf_echo he]
    omega
  · rw [cellOf_eq_of_not_echo he]
    exact fun h => hne (BitVec.eq_of_toNat_eq h.symm)

/-- The unusable region reads 0xFF and drops writes (R49). -/
theorem unusable_access {addr : Word} (h : region addr = .unusable) (v : Byte) (s : State) :
    busRead addr s = some 0xFF ∧ busWrite addr v s = some s := by
  simp [busRead, busWrite, h]

/-- Settles O51. WRAM, its echo and HRAM are plain stores (`plain_access`); an echo address shares its cell with the one 0x2000 lower
(`cellOf_echo_sub`), and the last 0x200 bytes of WRAM share theirs with none (`cellOf_ne_of_unmirrored`). -/
theorem wramEchoUnusableHram : Obligations.WramEchoUnusableHram := by
  refine ⟨?stores, ?echo, ?unmirrored, ?unusable⟩
  case stores =>
    rintro addr v s (⟨hlo, hhi⟩ | ⟨hlo, hhi⟩)
    · have hr := region_wram hlo hhi
      exact plain_access (plainStore_wram hr s) (by simp [hr]) v
    · have hr := region_hram hlo hhi
      exact plain_access (plainStore_hram hr s) (by simp [hr]) v
  case echo =>
    intro addr v s hlo hhi
    have hr := region_echo hlo hhi
    exact plain_access_congr (plainStore_echo hr s) (plainStore_wram (region_echo_sub hr) s) (cellOf_echo_sub hr).symm v
  case unmirrored =>
    intro addr other v s t hlo hhi hne hw
    have hr : region addr = .wram := region_wram (by omega) hhi
    have hecho : region addr ≠ .echo := by simp [hr]
    rw [plain_reads (plainStore_wram hr t), plain_reads (plainStore_wram hr s), cellOf_eq_of_not_echo hecho,
      (busWrite_cells hw).1 addr.toNat fun _ => cellOf_ne_of_unmirrored hlo hne]
  case unusable =>
    intro addr v s hlo hhi
    exact unusable_access (region_unusable hlo hhi) v s

theorem oamBlocked_iff (s : State) : s.oamBlocked = true ↔ s.ppuMode = .oamScan ∨ s.ppuMode = .drawing := by
  simp [State.oamBlocked]

theorem oam_access_of_blocked {addr : Word} {s : State} (h : region addr = .oam) (hb : s.oamBlocked = true) (v : Byte) :
    busRead addr s = some 0xFF ∧ busWrite addr v s = some s := by
  simp [busRead, busWrite, h, hb]

theorem oam_access_of_not_blocked {addr : Word} {s : State} (h : region addr = .oam) (hb : ¬ s.oamBlocked = true) (v : Byte) :
    busRead addr s = some (s.cell addr.toNat) ∧ busWrite addr v s = some (s.setCell addr.toNat v) := by
  simp [busRead, busWrite, h, hb]

/-- Settles O52: the two sides of the gate `oamBlocked`, which is up in exactly the two modes. -/
theorem oamGatedByPpuMode : Obligations.OamGatedByPpuMode := by
  intro addr v s hlo hhi
  have hr := region_oam hlo hhi
  rw [← oamBlocked_iff]
  exact ⟨fun hb => oam_access_of_blocked hr hb v, fun hb => oam_access_of_not_blocked hr hb v⟩

end Sys2Proof.Machine
end

section
/-! Pending and priority of interrupts (R313). -/

namespace Sys2Proof.Machine

theorem pending_getLsbD (s : State) (n : Nat) : s.pending.getLsbD n = (s.iflag.getLsbD n && s.ie.getLsbD n) := by
  simp [State.pending]

/-- The five kinds number all the bits there are: the lowest set bit of a nonzero word belongs to the kind of that priority. -/
theorem ne_zero_iff_exists_kind (p : BitVec 5) : p ≠ 0 ↔ ∃ k : IntKind, p.getLsbD k.num = true := by
  constructor
  · intro h
    obtain ⟨k, hk⟩ := priority_of_ne_zero h
    exact ⟨k, ((priority_some_iff p k).1 hk).1⟩
  · rintro ⟨k, hk⟩ rfl
    simp at hk

theorem pending_ne_zero_iff (s : State) :
    s.pending ≠ 0 ↔ ∃ k : IntKind, s.iflag.getLsbD k.num = true ∧ s.ie.getLsbD k.num = true := by
  simp only [ne_zero_iff_exists_kind, pending_getLsbD, Bool.and_eq_true]

theorem pending_congr {s t : State} (hf : s.iflag = t.iflag) (he : s.ie = t.ie) : s.pending = t.pending := by
  simp only [State.pending, hf, he]

/-- Settles O46: which bits are pending is `pending_ne_zero_iff`, the priority is `priority_some_iff` and `priority_eq_none_iff`
at the pending word, and that word is a function of IF and IE (`pending_congr`). -/
theorem pendingAndPriority : Obligations.PendingAndPriority := by
  refine ⟨pending_ne_zero_iff, fun s k => priority_some_iff s.pending k, fun s => priority_eq_none_iff s.pending, ?_⟩
  intro s t hf he
  have h : s.pending = t.pending := pending_congr hf he
  exact ⟨h, congrArg priority h⟩

end Sys2Proof.Machine
end

section
/-! The registers at reset (R360). -/

namespace Sys2Proof.Machine

/-- R360's registers are no parameter of reset: auxiliary values, image and inputs leave them alone. -/
@[simp] theorem resetWith_regs (aux : ResetAux) (image : Memory) (inputs : Inputs) :
    (State.resetWith aux image inputs).regs = Regs.reset := rfl

@[simp] theorem reset_regs : State.reset.regs = Regs.reset := resetWith_regs _ _ _

theorem reset_f_eq_packFlags : Regs.reset.f = packFlags true false true true := by decide

theorem flags_of_f_eq_packFlags {s : State} {z n h cy : Bool} (hf : s.regs.f = packFlags z n h cy) :
    s.zf = z ∧ s.nf = n ∧ s.hf = h ∧ s.cf = cy := by
  simp [State.zf, State.nf, State.hf, State.cf, hf]

theorem reset_pairs :
    Regs.reset.getStk .af = 0x01B0 ∧ Regs.reset.get16 .bc = 0x0013 ∧ Regs.reset.get16 .de = 0x00D8 ∧
      Regs.reset.get16 .hl = 0x014D := by
  decide

/-- Settles O1. The registers are `Regs.reset` whatever the parameters (`resetWith_regs`), so the registers are read off the
table; the flags are the bits of F = 0xB0 (`reset_f_eq_packFlags`), and the pairs are `reset_pairs`. -/
theorem resetRegisters : Obligations.ResetRegisters := by
  intro aux image inputs s
  have hregs : s.regs = Regs.reset := resetWith_regs aux image inputs
  obtain ⟨hz, hn, hh, hc⟩ := flags_of_f_eq_packFlags (s := s) reset_f_eq_packFlags
  obtain ⟨haf, hbc, hde, hhl⟩ := reset_pairs
  rw [State.getStk, State.get16, State.get16, State.get16, hregs]
  exact ⟨rfl, rfl, rfl, rfl, rfl, rfl, rfl, rfl, rfl, rfl, hz, hn, hh, hc, haf, hbc, hde, hhl, reset_regs⟩

end Sys2Proof.Machine
end

section
/-! The state after reset, and the invariants that every step keeps (R13, R28, R338, R362, R378). -/

namespace Sys2Proof.Machine

/-! Reset. -/

theorem reset_flagsOk : Regs.reset.f &&& 0x0F = 0 := by decide

/-- What the parameters of a reset have to meet is what R362 asks of the timer, and a canonical image. -/
theorem resetWith_inv {aux : ResetAux} {image : Memory} (inputs : Inputs) (ht : aux.timer.ok) (hm : image.wf = true) :
    (State.resetWith aux image inputs).inv :=
  ⟨reset_flagsOk, ht, hm⟩

theorem resetWith_running (aux : ResetAux) (image : Memory) (inputs : Inputs) :
    (State.resetWith aux image inputs).running := rfl

theorem baseline_timer_ok : ResetAux.baseline.timer.ok := by decide

theorem reset_phaseOk : State.reset.phaseOk := rfl

/-- Settles O2: the reset state is the case of the baseline parameters and the empty image; its divider is 0. -/
theorem resetMeetsInvariants : Obligations.ResetMeetsInvariants :=
  ⟨⟨resetWith_inv .baseline baseline_timer_ok reset_mem_wf, reset_phaseOk, resetWith_running ..⟩,
    fun aux image inputs ht hm => ⟨resetWith_inv inputs ht hm, resetWith_running aux image inputs⟩⟩

/-! Steps. -/

/-- Settles O3: each of the three parts is closed under everything a step is made of. -/
theorem stepKeepsInvariant : Obligations.StepKeepsInvariant := by
  rintro s t ⟨hflags, htimer, hmem⟩ h
  exact ⟨closed_flags.step hflags h, closed_timer.step htimer h, closed_wf.step hmem h⟩

/-- Settles O5: an M-cycle counts the divider by 4 and a DIV write clears it (`closed_phase`). -/
theorem stepKeepsDividerPhase : Obligations.StepKeepsDividerPhase :=
  fun _ _ hphase h => closed_phase.step hphase h

/-- What every step keeps, every sequence of steps keeps. -/
theorem Closed.of_reaches {Q : State → Prop} (c : Closed Q) {n : Nat} {s t : State} (hs : Q s) (h : reaches n s t) : Q t := by
  induction n generalizing s with
  | zero => exact (show s = t from h) ▸ hs
  | succ n ih =>
    obtain ⟨u, hstep, hrest⟩ := h
    exact ih (c.step hs hstep) hrest

/-! A push into plain stores and the pop after it. -/

theorem getStk_setStk_same {p : Reg16Stk} (h : p ≠ .af) (s : State) (v : Word) : (s.setStk p v).getStk p = v := by
  cases p with
  | af => exact absurd rfl h
  | bc | de | hl => exact bytesToWord_lo_hi v

/-- PUSH then POP over plain stores: the second pair is loaded with the first one, and no register but it has changed. -/
theorem push_pop_next {s : State} (p q : Reg16Stk) (h1 : s.plainStore (s.regs.sp - 1) = true)
    (h2 : s.plainStore (s.regs.sp - 2) = true) :
    ∃ t x : State, exec (rowPush p) s = .next t ∧ exec (rowPop q) t = .next (x.setStk q (s.getStk p)) ∧ x.regs = s.regs := by
  obtain ⟨w, hpushed, hpush⟩ :=
    push16_pushed 1 (s.getStk p) (plain_mapped h1) (plain_mapped h2) (fun s => .next s)
  have hsp : s.regs.sp - 2 + 2 = s.regs.sp := by bv_omega
  refine ⟨_, _, (exec_rowPush p s).trans hpush, pop_result (push_pops hpushed h1 h2), ?_⟩
  simp only [hsp]

/-- Settles O4. The invariant is `closed_flags`; C is F after PUSH AF and POP BC, so its low nibble is F's. -/
theorem flagLowNibbleStaysZero : Obligations.FlagLowNibbleStaysZero := by
  refine ⟨fun n s t hs h => closed_flags.of_reaches hs h, fun s hs h1 h2 => ?_⟩
  obtain ⟨t, x, hpush, hpop, -⟩ := push_pop_next .af .bc h1 h2
  have hc : (x.setStk .bc (s.getStk .af)).regs.c = s.regs.f := loByte_bytesToWord ..
  exact ⟨t, _, hpush, hpop, hc ▸ hs⟩

/-- Settles O39. -/
theorem pushThenPopRestores : Obligations.PushThenPopRestores := by
  intro s p q hq h1 h2
  obtain ⟨t, x, hpush, hpop, hx⟩ := push_pop_next p q h1 h2
  refine ⟨t, _, hpush, hpop, getStk_setStk_same hq x _, ?_, ?_⟩
  · rw [setStk_regs_sp, hx]
  · rw [setStk_regs_pc, hx]

end Sys2Proof.Machine
end

section
/-! The encoding: the round trip both ways, and the opcode bytes by their fields (R81 to R95). -/

namespace Sys2Proof

/-! Decoding after encoding. -/

/-- A row with a 16-bit immediate: its two bytes are the halves of the immediate, low byte first (R82). -/
theorem decode_encode_word {f : Word → Instr} {op : Byte} (he : ∀ n, encode (f n) = [op, loByte n, hiByte n])
    (hd : ∀ lo hi rest, decode (op :: lo :: hi :: rest) = .ok (f (bytesToWord lo hi), rest)) (n : Word) (rest : List Byte) :
    decode (encode (f n) ++ rest) = .ok (f n, rest) := by
  rw [he]
  exact (hd _ _ rest).trans (by rw [bytesToWord_lo_hi])

theorem decode_encode_illegal {x : Instr × Byte} (hx : x ∈ Machine.illegalRows) (rest : List Byte) :
    decode (encode x.1 ++ rest) = .ok (x.1, rest) := by
  unfold Machine.illegalRows at hx
  fin_cases hx <;> rfl

/-- Settles O7, one case per row shape: with the operands known the bytes are literals but for an immediate, which is copied (8 bits)
or put together from its halves (`decode_encode_word`). -/
theorem decodeInvertsEncode : Obligations.DecodeInvertsEncode := by
  intro i rest hw
  induction i using Machine.forall_rows
  case prefixCb => exact absurd hw (by decide)
  case illegal i op hi => exact decode_encode_illegal hi rest
  case rowLdR16N16 x n | rowJpCc x n | rowCallCc x n =>
    cases x <;> exact decode_encode_word (fun _ => rfl) (fun _ _ _ => rfl) n rest
  case ldAtN16Sp n | jpN16 n | callN16 n | ldAtN16A n | ldAAtN16 n =>
    exact decode_encode_word (fun _ => rfl) (fun _ _ _ => rfl) n rest
  case rowLdRegReg x r | rowAluReg x r | rowRotReg x r => cases x <;> cases r <;> rfl
  case rowBitReg b r | rowResReg b r | rowSetReg b r => fin_cases b <;> cases r <;> rfl
  case rowLdRegN8 x n | rowAluN8 x n | rowJrCc x n => cases x <;> rfl
  case rowLdRegAtHl x | rowLdAtHlReg x | rowAluAtHl x | rowIncReg x | rowDecReg x | rowIncR16 x | rowDecR16 x | rowAddHl x |
      rowPush x | rowPop x | rowRetCc x | rowRotAtHl x => cases x <;> rfl
  case rowRst b | rowBitAtHl b | rowResAtHl b | rowSetAtHl b => fin_cases b <;> rfl
  all_goals rfl

/-! Encoding after decoding. -/

/-- What bytes that decode are: as many as the first one asks for, decoded, and the rest (R95). -/
theorem decode_ok {bytes rest : List Byte} {i : Instr} (h : decode bytes = .ok (i, rest)) :
    (∃ op, instrLength op = 1 ∧ bytes = op :: rest ∧ i = decodeBytes op 0 0) ∨
      (∃ op b1, instrLength op = 2 ∧ bytes = op :: b1 :: rest ∧ i = decodeBytes op b1 0) ∨
      ∃ op b1 b2, instrLength op = 3 ∧ bytes = op :: b1 :: b2 :: rest ∧ i = decodeBytes op b1 b2 := by
  cases bytes with
  | nil => cases h
  | cons op bytes =>
    simp only [decode] at h
    split at h
    · cases h; exact .inl ⟨op, ‹_›, rfl, rfl⟩
    · cases h; exact .inr (.inl ⟨op, _, ‹_›, rfl, rfl⟩)
    · cases h; exact .inr (.inr ⟨op, _, _, ‹_›, rfl, rfl⟩)
    · cases h

/-- Settles O8, by the length that the first byte gives. -/
theorem encodeInvertsDecode : Obligations.EncodeInvertsDecode := by
  intro bytes rest i h
  obtain ⟨op, hl, rfl, rfl⟩ | ⟨op, b1, hl, rfl, rfl⟩ | ⟨op, b1, b2, hl, rfl, rfl⟩ := decode_ok h
  · obtain ⟨hw, he⟩ := Machine.len1 op hl
    exact ⟨hw, by rw [he]; rfl⟩
  · obtain ⟨hw, he⟩ := Machine.dec2 op b1 hl
    exact ⟨hw, by rw [he]; rfl⟩
  · obtain ⟨hw, he⟩ := Machine.dec3 op b1 b2 hl
    exact ⟨hw, by rw [he]; rfl⟩

/-! The opcode bytes. -/

/-- The index of a register in the table of `r8` (R84). -/
def Reg8.index (r : Reg8) : Nat :=
  match r with
  | .b => 0
  | .c => 1
  | .d => 2
  | .e => 3
  | .h => 4
  | .l => 5
  | .a => 7

/-- A field that names a register is that register's index. -/
theorem eq_index_of_opnd8At {y : Nat} {r : Reg8} (hy : y < 8) (h : opnd8At y = .reg r) : y = r.index := by
  interval_cases y <;> cases h <;> rfl

/-- Settles O9, for the registers by their indexes, for the other fields by their values. -/
theorem opcodesFollowTheFields : Obligations.OpcodesFollowTheFields := by
  refine ⟨?loads, ?operations, ?bits, ?pairs⟩
  case loads =>
    intro y z hy hz r q n hr hq
    obtain rfl := eq_index_of_opnd8At hy hr
    obtain rfl := eq_index_of_opnd8At hz hq
    refine ⟨?_, ?_, ?_, ?_, ?_, ?_⟩
    · cases r <;> cases q <;> rfl
    · cases r <;> rfl
    · cases q <;> rfl
    · cases r <;> rfl
    · cases r <;> rfl
    · cases r <;> rfl
  case operations =>
    intro y z hy hz q n hq
    obtain rfl := eq_index_of_opnd8At hz hq
    refine ⟨?_, ?_, ?_, ?_, ?_⟩
    · interval_cases y <;> cases q <;> rfl
    · interval_cases y <;> rfl
    · interval_cases y <;> rfl
    · interval_cases y <;> cases q <;> rfl
    · interval_cases y <;> rfl
  case bits =>
    intro b z hz q hq
    obtain rfl := eq_index_of_opnd8At hz hq
    refine ⟨?_, ?_, ?_, ?_, ?_, ?_, ?_⟩
    · fin_cases b <;> cases q <;> rfl
    · fin_cases b <;> cases q <;> rfl
    · fin_cases b <;> cases q <;> rfl
    · fin_cases b <;> rfl
    · fin_cases b <;> rfl
    · fin_cases b <;> rfl
    · fin_cases b <;> rfl
  case pairs =>
    intro p hp n e
    interval_cases p <;> exact ⟨rfl, rfl, rfl, rfl, rfl, rfl, rfl, rfl, rfl, rfl⟩

/-- Settles O10: closed words, run through the decoder. -/
theorem specWordsDecode : Obligations.SpecWordsDecode :=
  ⟨rfl, rfl, rfl, rfl, rfl, rfl, rfl, rfl, rfl, rfl, rfl, rfl, rfl, rfl, rfl, rfl, rfl, rfl⟩

end Sys2Proof
end

section
/-! The step: which instruction it runs (R290), the prefix (R275), EI's delay (R272), the halted state (R273, R316), and how many
M-cycles each takes (R98, R380). -/

namespace Sys2Proof.Machine

/-! Which instruction a step runs. -/

/-- Fetching the bytes of a well-formed instruction runs it. -/
theorem fetchAndRun_encode {i : Instr} {s : State} (hw : i.wellFormed = true) (hf : fetches (encode i) s) :
    fetchAndRun exec s = exec i (fetched (encode i).length s) := by
  obtain ⟨op, bs, he, hl⟩ := encode_head i hw
  rw [he] at hf ⊢
  exact fetchAndRun_bytes hf hl fun rest => he ▸ decodeInvertsEncode i rest hw

/-- Settles O11. -/
theorem stepRunsTheDecodedInstruction : Obligations.StepRunsTheDecodedInstruction :=
  fun _ _ hw hs hf => (step_fetch hs).trans (fetchAndRun_encode hw hf)

/-- A fetch that leads to a next state has run a whole instruction. -/
theorem fetchAndRun_next_encode {s t : State} (h : fetchAndRun exec s = .next t) :
    ∃ i : Instr, i.wellFormed = true ∧ exec i (fetched (encode i).length s) = .next t := by
  obtain ⟨op, hop, h⟩ := fetch8_next h
  rcases instrLength_cases op with hl | hl | hl <;> simp only [hl] at h
  · obtain ⟨hw, he⟩ := len1 op hl
    exact ⟨_, hw, by rw [he]; exact h⟩
  · obtain ⟨b1, -, h⟩ := fetch8_next h
    obtain ⟨hw, he⟩ := dec2 op b1 hl
    exact ⟨_, hw, by rw [he]; exact fetched_succ 1 s ▸ h⟩
  · obtain ⟨b1, -, h⟩ := fetch8_next h
    obtain ⟨b2, -, h⟩ := fetch8_next h
    obtain ⟨hw, he⟩ := dec3 op b1 b2 hl
    exact ⟨_, hw, by rw [he]; exact fetched_succ 2 s ▸ fetched_succ 1 (fetched 1 s) ▸ h⟩

/-! The prefix. -/

/-- A read M-cycle at an address with a device goes on with the byte there. -/
theorem memRead_mapped {addr : Word} (h : mapped addr = true) (s : State) :
    ∃ v, ∀ k, memRead addr s k = k v (internal s) := by
  obtain ⟨v, hv⟩ := busRead_mapped h (internal s)
  exact ⟨v, memRead_some hv⟩

/-- A write M-cycle at an address with a device goes on after its bus write. -/
theorem memWrite_mapped {addr : Word} (h : mapped addr = true) (v : Byte) (s : State) :
    ∃ w, busWrite addr v (internal s) = some w ∧ ∀ k, memWrite addr v s k = k w := by
  obtain ⟨w, hw⟩ := busWrite_mapped h v (internal s)
  exact ⟨w, hw, memWrite_some hw⟩

/-- The `[HL]` forms that read a byte, write one, and then set registers complete where HL has a device. -/
theorem modifyAtHl_next {s : State} (h : mapped s.hl = true) (f : Byte → State → Byte) (g : Byte → State → State → State) :
    ∃ t, (memRead s.hl s fun v s => memWrite s.hl (f v s) s fun w => .next (g v s w)) = .next t := by
  obtain ⟨v, hread⟩ := memRead_mapped h s
  obtain ⟨w, -, hwrite⟩ := memWrite_mapped h (f v (internal s)) (internal s)
  exact ⟨_, (hread _).trans (hwrite _)⟩

/-- Every entry of the CB table completes where HL has a device. -/
theorem runCbEntry_next (op2 : Byte) {s : State} (h : mapped s.hl = true) : ∃ t, runCbEntry op2 s = .next t := by
  unfold runCbEntry
  simp only
  split
  · exact ⟨_, rfl⟩
  · exact modifyAtHl_next h _ fun v s w => w.setFlags ((rotResult _ v s.cf).1 == 0) false false (rotResult _ v s.cf).2
  · exact ⟨_, rfl⟩
  · obtain ⟨v, hread⟩ := memRead_mapped h s
    exact ⟨_, hread _⟩
  · exact ⟨_, rfl⟩
  · exact modifyAtHl_next h _ fun _ _ w => w
  · exact ⟨_, rfl⟩
  · exact modifyAtHl_next h _ fun _ _ w => w

theorem decode_cb {op2 : Byte} {i : Instr} (h : decode [0xCB, op2] = .ok (i, [])) : i = decodeCb op2 := by
  have hcb : decode [0xCB, op2] = .ok (decodeCb op2, []) := rfl
  rw [hcb] at h
  cases h
  rfl

/-- Settles O12: the row is a fetch and then `runCbEntry`, which is the meaning of the instruction decoded (`cb_entry`). -/
theorem prefixRunsTheCbTable : Obligations.PrefixRunsTheCbTable := by
  refine ⟨fun s op2 i hi hread => ⟨?_, rfl⟩, fun s hpc hhl => ?_⟩
  · rw [decode_cb hi, cb_entry]
    exact fetch8_some hread _
  · obtain ⟨op2, hread⟩ := busRead_mapped hpc (internal s)
    obtain ⟨t, ht⟩ := runCbEntry_next op2 (s := fetched 1 s) hhl
    exact ⟨t, (fetch8_some hread _).trans ht⟩

/-! EI's delay and the halted state. -/

/-- A dispatch leaves IME 0 and no enable scheduled: its push does not reach the control bits. -/
theorem dispatch_next_control {k : IntKind} {s t : State} (h : dispatch k s = .next t) :
    t.ime = false ∧ t.imePending = false ∧ t.halted = s.halted := by
  obtain ⟨u, w, hu, hw, h⟩ := push16_next h
  obtain ⟨-, hime, hpend, hhalt, -⟩ := busWrite_frame hu
  obtain ⟨-, hime', hpend', hhalt', -⟩ := busWrite_frame hw
  cases h
  exact ⟨hime'.trans hime, hpend'.trans hpend, hhalt'.trans hhalt⟩

/-- Settles O48: with IME 0 the step fetches, with the scheduled enable applied; with IME 1 and a request pending it dispatches. -/
theorem enableTakesEffectAfterOneInstruction : Obligations.EnableTakesEffectAfterOneInstruction := by
  refine ⟨fun i s hr hi he hz hw hf => ?_, fun s t hr hi hp h => ?_⟩
  · have hat : s.atFetch = { s with halted := false, ime := true, imePending := false } := by simp [State.atFetch, he]
    rw [← hat]
    exact stepRunsTheDecodedInstruction i s hw ⟨hr, hz, fun _ => hi⟩ hf
  · obtain ⟨k, hk⟩ := priority_of_ne_zero hp
    obtain ⟨hime, hpend, -⟩ := dispatch_next_control (step_dispatch hr hi hk ▸ h)
    exact ⟨hime, hpend⟩

/-- Settles O49. -/
theorem haltedIdlesUntilPending : Obligations.HaltedIdlesUntilPending :=
  ⟨fun _ hr hh hz => ⟨_, step_idle hr hz hh, rfl, hh, rfl, fun _ => rfl, rfl⟩, fun _ hr hp _ => wake hr hp,
    fun _ hr hp _ => wake hr hp⟩

/-! M-cycles. -/

theorem lasts_raise (k : Nat) (c : FaultCause) (s : State) : lasts k s (raise c s) := fun t h => absurd h (raise_ne_next c s t)

theorem lasts_jump {a : Word} {s : State} : lasts 1 s (jump a s) := lasts_next rfl

theorem lasts_loadA {a : Word} {s : State} : lasts 1 s (loadA a s) := lasts_memRead fun _ => lasts_next rfl

theorem lasts_storeA {a : Word} {s : State} : lasts 1 s (storeA a s) := lasts_memWrite fun _ => lasts_next rfl

theorem lasts_loadAStep {d : Word} {s : State} : lasts 1 s (loadAStep d s) := lasts_memRead fun _ => lasts_next rfl

theorem lasts_storeAStep {d : Word} {s : State} : lasts 1 s (storeAStep d s) := lasts_memWrite fun _ => lasts_next rfl

/-- The `[HL]` forms that read a byte, write one, and then set registers take two M-cycles. -/
theorem lasts_modifyAtHl {s : State} {f : Byte → State → Byte} {g : Byte → State → State → State}
    (hg : ∀ v s w, (g v s w).t = w.t) :
    lasts 2 s (memRead s.hl s fun v s => memWrite s.hl (f v s) s fun w => .next (g v s w)) :=
  lasts_memRead fun _ => lasts_memWrite fun _ => lasts_next (hg ..)

theorem lasts_incAtHl {s : State} : lasts 2 s (incAtHl s) :=
  lasts_modifyAtHl (g := fun v s w => w.setFlags _ _ _ (inc8 v s.cf).cy) fun _ _ _ => rfl

theorem lasts_decAtHl {s : State} : lasts 2 s (decAtHl s) :=
  lasts_modifyAtHl (g := fun v s w => w.setFlags _ _ _ (dec8 v s.cf).cy) fun _ _ _ => rfl

theorem lasts_returnFromInterrupt {s : State} : lasts 3 s (returnFromInterrupt s) := by
  unfold returnFromInterrupt; exact lasts_pop16 fun _ _ => lasts_next rfl

theorem lasts_dispatch {k : IntKind} {s : State} : lasts 5 s (dispatch k s) := by
  unfold dispatch
  exact lasts_internal (s := { s with ime := _, imePending := _, iflag := _ })
    (lasts_internal (lasts_push16 fun _ => lasts_next rfl))

/-- The eleven rows stop, so they have no next state to last to. -/
theorem illegal_mcycles {x : Instr × Byte} (hx : x ∈ illegalRows) : (instrInfo x.1).mcycles = (instrInfo x.1).length := by
  unfold illegalRows at hx
  fin_cases hx <;> rfl

/-- The meaning of an instruction without a condition lasts its row's M-cycles less those of the fetches. -/
theorem exec_lasts {i : Instr} (hw : i.wellFormed = true) (hn : (instrInfo i).mcyclesNotTaken = none) (s : State) :
    ∃ k, (instrInfo i).mcycles = (instrInfo i).length + k ∧ lasts k s (exec i s) := by
  induction i using forall_rows
  case prefixCb => exact absurd hw (by decide)
  case rowJpCc cc n => exact absurd hn (condForm_some (cc := cc) (.inl ⟨n, rfl⟩))
  case rowJrCc cc n => exact absurd hn (condForm_some (cc := cc) (.inr (.inl ⟨n, rfl⟩)))
  case rowCallCc cc n => exact absurd hn (condForm_some (cc := cc) (.inr (.inr (.inl ⟨n, rfl⟩))))
  case rowRetCc cc => exact absurd hn (condForm_some (cc := cc) (.inr (.inr (.inr rfl))))
  case illegal i op hi => exact ⟨0, illegal_mcycles hi, by rw [exec_illegal hi]; exact lasts_raise _ _ _⟩
  case rowLdRegReg dst src => exact ⟨0, by cases dst <;> cases src <;> rfl, exec_rowLdRegReg dst src s ▸ lasts_next rfl⟩
  case rowLdRegN8 dst n => exact ⟨0, by cases dst <;> rfl, exec_rowLdRegN8 dst n s ▸ lasts_next rfl⟩
  case rowLdRegAtHl dst =>
    exact ⟨1, by cases dst <;> rfl, exec_rowLdRegAtHl dst s ▸ lasts_memRead fun _ => lasts_next rfl⟩
  case rowLdAtHlReg r => exact ⟨1, by cases r <;> rfl, exec_rowLdAtHlReg r s ▸ lasts_memWrite fun _ => lasts_next rfl⟩
  case rowLdR16N16 p n => exact ⟨0, by cases p <;> rfl, exec_rowLdR16N16 p n s ▸ lasts_next rfl⟩
  case rowAluReg op r => exact ⟨0, by cases op <;> cases r <;> rfl, exec_rowAluReg op r s ▸ lasts_aluOn⟩
  case rowAluAtHl op => exact ⟨1, by cases op <;> rfl, exec_rowAluAtHl op s ▸ lasts_memRead fun _ => lasts_aluOn⟩
  case rowAluN8 op n => exact ⟨0, by cases op <;> rfl, exec_rowAluN8 op n s ▸ lasts_aluOn⟩
  case rowIncReg r => exact ⟨0, by cases r <;> rfl, exec_rowIncReg r s ▸ lasts_next rfl⟩
  case rowDecReg r => exact ⟨0, by cases r <;> rfl, exec_rowDecReg r s ▸ lasts_next rfl⟩
  case rowIncR16 p => exact ⟨1, by cases p <;> rfl, exec_rowIncR16 p s ▸ lasts_next rfl⟩
  case rowDecR16 p => exact ⟨1, by cases p <;> rfl, exec_rowDecR16 p s ▸ lasts_next rfl⟩
  case rowAddHl p => exact ⟨1, by cases p <;> rfl, exec_rowAddHl p s ▸ lasts_next rfl⟩
  case rowPush p =>
    exact ⟨3, by cases p <;> rfl, exec_rowPush p s ▸ lasts_internal (lasts_push16 fun _ => lasts_next rfl)⟩
  case rowPop p => exact ⟨2, by cases p <;> rfl, exec_rowPop p s ▸ lasts_pop16 fun _ _ => lasts_next rfl⟩
  case rowRst b => exact ⟨3, by fin_cases b <;> rfl, exec_rowRst b s ▸ lasts_call⟩
  case rowRotReg op r => exact ⟨0, by cases op <;> cases r <;> rfl, exec_rowRotReg op r s ▸ lasts_next rfl⟩
  case rowRotAtHl op =>
    exact ⟨2, by cases op <;> rfl,
      exec_rowRotAtHl op s ▸ lasts_modifyAtHl (g := fun v s w => w.setFlags _ false false _) fun _ _ _ => rfl⟩
  case rowBitReg b r => exact ⟨0, by fin_cases b <;> cases r <;> rfl, exec_rowBitReg b r s ▸ lasts_next rfl⟩
  case rowBitAtHl b => exact ⟨1, by fin_cases b <;> rfl, exec_rowBitAtHl b s ▸ lasts_memRead fun _ => lasts_next rfl⟩
  case rowResReg b r => exact ⟨0, by fin_cases b <;> cases r <;> rfl, exec_rowResReg b r s ▸ lasts_next rfl⟩
  case rowSetReg b r => exact ⟨0, by fin_cases b <;> cases r <;> rfl, exec_rowSetReg b r s ▸ lasts_next rfl⟩
  case rowResAtHl b =>
    exact ⟨2, by fin_cases b <;> rfl, exec_rowResAtHl b s ▸ lasts_modifyAtHl (g := fun _ _ w => w) fun _ _ _ => rfl⟩
  case rowSetAtHl b =>
    exact ⟨2, by fin_cases b <;> rfl, exec_rowSetAtHl b s ▸ lasts_modifyAtHl (g := fun _ _ w => w) fun _ _ _ => rfl⟩
  case ldAtBcA | ldAtDeA | ldAtN16A n | ldhAtN8A n | ldhAtCA => exact ⟨1, rfl, lasts_storeA⟩
  case ldAAtBc | ldAAtDe | ldAAtN16 n | ldhAAtN8 n | ldhAAtC => exact ⟨1, rfl, lasts_loadA⟩
  case ldAAtHli | ldAAtHld => exact ⟨1, rfl, lasts_loadAStep⟩
  case ldAtHliA | ldAtHldA => exact ⟨1, rfl, lasts_storeAStep⟩
  case ldAtHlN8 n => exact ⟨1, rfl, lasts_memWrite fun _ => lasts_next rfl⟩
  case ldAtN16Sp n => exact ⟨2, rfl, lasts_memWrite fun _ => lasts_memWrite fun _ => lasts_next rfl⟩
  case incAtHl => exact ⟨2, rfl, lasts_incAtHl⟩
  case decAtHl => exact ⟨2, rfl, lasts_decAtHl⟩
  case addSpE8 e => exact ⟨2, rfl, lasts_next rfl⟩
  case ldHlSpE8 e => exact ⟨1, rfl, lasts_next rfl⟩
  case ldSpHl => exact ⟨1, rfl, lasts_next rfl⟩
  case jrE8 e | jpN16 n => exact ⟨1, rfl, lasts_jump⟩
  case callN16 n => exact ⟨3, rfl, lasts_call⟩
  case ret => exact ⟨3, rfl, lasts_ret⟩
  case reti => exact ⟨3, rfl, lasts_returnFromInterrupt⟩
  all_goals exact ⟨0, rfl, lasts_next rfl⟩

theorem illegal_mcyclesNotTaken {x : Instr × Byte} (hx : x ∈ illegalRows) : (instrInfo x.1).mcyclesNotTaken = none := by
  unfold illegalRows at hx
  fin_cases hx <;> rfl

/-- The alternate count is that of a conditional row (R98). -/
theorem unconditional_or_condForm (i : Instr) : (instrInfo i).mcyclesNotTaken = none ∨ ∃ cc, condForm cc i := by
  induction i using forall_rows
  case rowJpCc cc n => exact .inr ⟨cc, .inl ⟨n, rfl⟩⟩
  case rowJrCc cc n => exact .inr ⟨cc, .inr (.inl ⟨n, rfl⟩)⟩
  case rowCallCc cc n => exact .inr ⟨cc, .inr (.inr (.inl ⟨n, rfl⟩))⟩
  case rowRetCc cc => exact .inr ⟨cc, .inr (.inr (.inr rfl))⟩
  case illegal i op hi => exact .inl (illegal_mcyclesNotTaken hi)
  case rowLdRegReg x r | rowAluReg x r | rowRotReg x r => cases x <;> cases r <;> exact .inl rfl
  case rowBitReg b r | rowResReg b r | rowSetReg b r => fin_cases b <;> cases r <;> exact .inl rfl
  case rowLdRegN8 x n | rowAluN8 x n | rowLdR16N16 x n => cases x <;> exact .inl rfl
  case rowLdRegAtHl x | rowLdAtHlReg x | rowAluAtHl x | rowIncReg x | rowDecReg x | rowIncR16 x | rowDecR16 x | rowAddHl x |
      rowPush x | rowPop x | rowRotAtHl x => cases x <;> exact .inl rfl
  case rowRst b | rowBitAtHl b | rowResAtHl b | rowSetAtHl b => fin_cases b <;> exact .inl rfl
  all_goals exact .inl rfl

theorem condForm_iff (i : Instr) : (∃ cc, condForm cc i) ↔ (instrInfo i).mcyclesNotTaken ≠ none :=
  ⟨fun ⟨_, h⟩ => condForm_some h, fun h => (unconditional_or_condForm i).resolve_left h⟩

/-- A conditional instruction lasts by its condition (R242, R245, R247, R249). -/
theorem exec_lasts_cond {cc : Cond} {i : Instr} (h : condForm cc i) (s : State) :
    (condHolds cc s → ∃ k, (instrInfo i).mcycles = (instrInfo i).length + k ∧ lasts k s (exec i s)) ∧
      (¬ condHolds cc s → ∃ k, (instrInfo i).mcyclesNotTaken = some ((instrInfo i).length + k) ∧ lasts k s (exec i s)) := by
  rw [← cond_iff']
  obtain ⟨n, rfl⟩ | ⟨e, rfl⟩ | ⟨n, rfl⟩ | rfl := h
  · rw [exec_rowJpCc, jumpIf]
    exact ⟨fun hc => ⟨1, by cases cc <;> rfl, if_pos hc ▸ lasts_jump⟩,
      fun hc => ⟨0, by cases cc <;> rfl, if_neg hc ▸ lasts_next rfl⟩⟩
  · rw [exec_rowJrCc, jumpRelativeIf]
    exact ⟨fun hc => ⟨1, by cases cc <;> rfl, if_pos hc ▸ lasts_jump⟩,
      fun hc => ⟨0, by cases cc <;> rfl, if_neg hc ▸ lasts_next rfl⟩⟩
  · rw [exec_rowCallCc, callIf]
    exact ⟨fun hc => ⟨3, by cases cc <;> rfl, if_pos hc ▸ lasts_call⟩,
      fun hc => ⟨0, by cases cc <;> rfl, if_neg hc ▸ lasts_next rfl⟩⟩
  · rw [exec_rowRetCc, retIf]
    exact ⟨fun hc => ⟨4, by cases cc <;> rfl, if_pos hc ▸ lasts_internal lasts_ret⟩,
      fun hc => ⟨1, by cases cc <;> rfl, if_neg hc ▸ lasts_next rfl⟩⟩

/-- Every row and state have a number of M-cycles. -/
theorem exists_tableMcycles (i : Instr) (s : State) : ∃ m, tableMcycles i s m := by
  by_cases h : ∀ cc, condForm cc i → condHolds cc s
  · exact ⟨_, .inl ⟨rfl, h⟩⟩
  · push Not at h
    obtain ⟨cc, hform, hcond⟩ := h
    obtain ⟨m, hm⟩ := Option.ne_none_iff_exists'.1 (condForm_some hform)
    exact ⟨m, .inr ⟨hm, cc, hform, hcond⟩⟩

theorem tableMcycles_le {i : Instr} {s : State} {m : Nat} (h : tableMcycles i s m) : m ≤ 6 := by
  obtain ⟨htaken, hnot⟩ := info_bound i
  obtain ⟨rfl, -⟩ | ⟨hm, -⟩ := h
  · exact htaken
  · exact hnot m hm

theorem condHolds_congr {s t : State} (h : t.regs.f = s.regs.f) (cc : Cond) : condHolds cc t ↔ condHolds cc s := by
  cases cc <;> simp [condHolds, State.zf, State.cf, h]

/-- The row's count looks at F alone, which the fetches leave. -/
theorem tableMcycles_fetched {i : Instr} {s : State} {m : Nat} (n : Nat) (h : tableMcycles i s m) :
    tableMcycles i (fetched n s.atFetch) m := by
  have hf : (fetched n s.atFetch).regs.f = s.regs.f := by
    rw [fetched, setPc_regs_f, internals_regs]; rfl
  simpa only [tableMcycles, condHolds_congr hf] using h

/-- The meaning of an instruction lasts its row's M-cycles less those of the fetches. -/
theorem exec_lasts_table {i : Instr} {s : State} {m : Nat} (hw : i.wellFormed = true) (hm : tableMcycles i s m) :
    ∃ k, m = (encode i).length + k ∧ lasts k s (exec i s) := by
  rw [info_len]
  rcases unconditional_or_condForm i with hn | ⟨cc, hcc⟩
  · obtain ⟨rfl, -⟩ | ⟨hm, -⟩ := hm
    · exact exec_lasts hw hn s
    · exact absurd (hn.symm.trans hm) (Option.some_ne_none m).symm
  · obtain ⟨htaken, hnot⟩ := exec_lasts_cond hcc s
    obtain ⟨rfl, hc⟩ | ⟨hm, cc', hcc', hc⟩ := hm
    · exact htaken (hc cc hcc)
    · rw [condForm_inj hcc hcc'] at hc
      obtain ⟨k, hk, hl⟩ := hnot hc
      exact ⟨k, Option.some.inj (hm.symm.trans hk), hl⟩

/-- A fetched instruction lasts its row's M-cycles, one at least. -/
theorem exec_fetched_t {i : Instr} {s t : State} {m : Nat} (hw : i.wellFormed = true) (hm : tableMcycles i s m)
    (h : exec i (fetched (encode i).length s.atFetch) = .next t) : 1 ≤ m ∧ t.t = s.t + 4 * m := by
  obtain ⟨k, rfl, hl⟩ := exec_lasts_table hw (tableMcycles_fetched _ hm)
  have hpos : 0 < (encode i).length := List.length_pos_of_ne_nil (encode_ne_nil i)
  have ht := hl t h
  rw [fetched_t, show s.atFetch.t = s.t from rfl] at ht
  omega

/-- Every step lasts one to six M-cycles (R290). -/
theorem step_mcycles {s t : State} (h : step s = .next t) : ∃ m, 1 ≤ m ∧ m ≤ 6 ∧ t.t = s.t + 4 * m := by
  have hr := step_next_running h
  rcases step_cases hr with ⟨k, hi, hp⟩ | ⟨hz, hh⟩ | hf
  · rw [step_dispatch hr hi hp] at h
    have ht := lasts_dispatch t h
    exact ⟨5, by decide, by decide, ht⟩
  · rw [step_idle hr hz hh] at h
    cases h
    exact ⟨1, by decide, by decide, rfl⟩
  · rw [step_fetch hf] at h
    obtain ⟨i, hw, h⟩ := fetchAndRun_next_encode h
    obtain ⟨m, hm⟩ := exists_tableMcycles i s
    obtain ⟨hpos, ht⟩ := exec_fetched_t hw hm h
    exact ⟨m, hpos, tableMcycles_le hm, ht⟩

/-- Settles O6. -/
theorem instructionLastsItsRowsMcycles : Obligations.InstructionLastsItsRowsMcycles := by
  refine ⟨fun i s t m hw hs hf hm h => ?_, fun i => ⟨info_len i, condForm_iff i⟩, fun s t h => step_mcycles h⟩
  exact (exec_fetched_t hw hm (stepRunsTheDecodedInstruction i s hw hs hf ▸ h)).2

end Sys2Proof.Machine
end

section
/-! What each shape of an instruction's end leaves unchanged, after `k` M-cycles: a register, a pair, the flags, a byte of memory. -/

namespace Sys2Proof.Machine

/-! Which registers a write leaves, one rule per relation and write. -/

theorem keeps8_of_regs {s t : State} (h : t.regs = s.regs) (l : List Reg8) : s.keeps8 l t := fun r _ => regs_get8 h r

theorem keeps8_trans {s t u : State} {l l' : List Reg8} (h : s.keeps8 l t) (h' : t.keeps8 l' u) : s.keeps8 (l ++ l') u := by
  intro r hr
  rw [List.mem_append, not_or] at hr
  exact (h' r hr.2).trans (h r hr.1)

theorem keeps8_set16_hl (s : State) (v : Word) : s.keeps8 [.h, .l] (s.set16 .hl v) := by
  intro r hr
  cases r <;> simp at hr <;> rfl

theorem keeps8_setSp (s : State) (v : Word) : s.keeps8 [] (s.setSp v) := fun r _ => by cases r <;> rfl

theorem keeps8_setFlags (s : State) (z n h cy : Bool) : s.keeps8 [] (s.setFlags z n h cy) := fun r _ => setFlags_get8 s z n h cy r

theorem keepsSpPc_of_regs {s t : State} (h : t.regs = s.regs) : s.keepsSpPc t := ⟨congrArg Regs.sp h, congrArg Regs.pc h⟩

theorem keepsSpPc_trans {s t u : State} (h : s.keepsSpPc t) (h' : t.keepsSpPc u) : s.keepsSpPc u :=
  ⟨h'.1.trans h.1, h'.2.trans h.2⟩

theorem keepsSpPc_set8 (s : State) (r : Reg8) (v : Byte) : s.keepsSpPc (s.set8 r v) := ⟨set8_regs_sp .., set8_regs_pc ..⟩

theorem keepsSpPc_set16_hl (s : State) (v : Word) : s.keepsSpPc (s.set16 .hl v) := ⟨rfl, rfl⟩

theorem keepsSpPc_setFlags (s : State) (z n h cy : Bool) : s.keepsSpPc (s.setFlags z n h cy) := ⟨rfl, rfl⟩

theorem onlyRegs_internals (s : State) (k : Nat) : s.onlyRegs k (internals k s) := ⟨rfl, internals_cell k s⟩

/-- Writing registers once more is writing registers only. -/
theorem onlyRegs_regs {s t : State} {k : Nat} (h : s.onlyRegs k t) (g : Regs) : s.onlyRegs k { t with regs := g } :=
  ⟨congrArg (fun x : State => { x with regs := g }) h.1, fun a => h.2 a⟩

theorem onlyRegs_set8 {s t : State} {k : Nat} (h : s.onlyRegs k t) (r : Reg8) (v : Byte) : s.onlyRegs k (t.set8 r v) :=
  onlyRegs_regs h _

theorem onlyRegs_set16 {s t : State} {k : Nat} (h : s.onlyRegs k t) (p : Reg16) (v : Word) : s.onlyRegs k (t.set16 p v) :=
  onlyRegs_regs h _

theorem onlyRegs_setSp {s t : State} {k : Nat} (h : s.onlyRegs k t) (v : Word) : s.onlyRegs k (t.setSp v) := onlyRegs_regs h _

theorem onlyRegs_setFlags {s t : State} {k : Nat} (h : s.onlyRegs k t) (z n hc cy : Bool) :
    s.onlyRegs k (t.setFlags z n hc cy) := onlyRegs_regs h _

/-! A load of a register or of a pair. -/

/-- What a load of an 8-bit register leaves after `k` M-cycles. -/
theorem loadReg_next (s : State) (k : Nat) (dst : Reg8) (v : Byte) :
    ∃ t, loadReg dst v (internals k s) = .next t ∧ s.onlyRegs k t ∧ t.get8 dst = v ∧ s.keeps8 [dst] t ∧ s.keepsF t ∧
      s.keepsSpPc t := by
  have hr := internals_regs k s
  refine ⟨_, rfl, onlyRegs_set8 (onlyRegs_internals s k) .., get8_set8_same .., ?_, ?_, ?_⟩
  · exact keeps8_trans (keeps8_of_regs hr []) (keeps8_set8 _ dst v)
  · exact (set8_regs_f ..).trans (congrArg Regs.f hr)
  · exact keepsSpPc_trans (keepsSpPc_of_regs hr) (keepsSpPc_set8 ..)

/-- What a load of a pair leaves after `k` M-cycles. -/
theorem load16_next (s : State) (k : Nat) (p : Reg16) (v : Word) :
    ∃ t, load16 p v (internals k s) = .next t ∧ s.onlyRegs k t ∧ t.get16 p = v ∧ (∀ q, q ≠ p → t.get16 q = s.get16 q) ∧
      t.regs.a = s.regs.a ∧ s.keepsF t ∧ t.regs.pc = s.regs.pc := by
  have hr := internals_regs k s
  refine ⟨_, rfl, onlyRegs_set16 (onlyRegs_internals s k) .., get16_set16_same .., fun q hq => ?_, ?_, ?_, ?_⟩
  · exact (get16_set16_other _ v hq).trans (congrArg (Regs.get16 · q) hr)
  · exact (set16_regs_a ..).trans (congrArg Regs.a hr)
  · exact (set16_regs_f ..).trans (congrArg Regs.f hr)
  · exact (set16_regs_pc ..).trans (congrArg Regs.pc hr)

/-! An operation that ends by writing the flags. -/

theorem internals_cf (k : Nat) (s : State) : (internals k s).cf = s.cf := by rw [State.cf, internals_regs, State.cf]

/-- Only flags are written. -/
theorem flags_next {s : State} {k : Nat} {r : StepResult} {z n h cy : Bool}
    (hr : r = .next ((internals k s).setFlags z n h cy)) :
    ∃ t, r = .next t ∧ s.onlyRegs k t ∧ t.hasFlags z n h cy ∧ s.keeps8 [] t ∧ s.keepsSpPc t := by
  have hregs := internals_regs k s
  refine ⟨_, hr, onlyRegs_setFlags (onlyRegs_internals s k) .., hasFlags_setFlags .., ?_, ?_⟩
  · exact keeps8_trans (keeps8_of_regs hregs []) (keeps8_setFlags _ _ _ _ _)
  · exact keepsSpPc_trans (keepsSpPc_of_regs hregs) (keepsSpPc_setFlags ..)

/-- A register and the flags are written. -/
theorem reg_flags_next {s : State} {k : Nat} {r : StepResult} {dst : Reg8} {v : Byte} {z n h cy : Bool}
    (hr : r = .next (((internals k s).set8 dst v).setFlags z n h cy)) :
    ∃ t, r = .next t ∧ s.onlyRegs k t ∧ t.get8 dst = v ∧ t.hasFlags z n h cy ∧ s.keeps8 [dst] t ∧ s.keepsSpPc t := by
  obtain ⟨u, hu, honly, hv, hkeep, -, hsp⟩ := loadReg_next s k dst v
  cases hu
  exact ⟨_, hr, onlyRegs_setFlags honly .., (setFlags_get8 ..).trans hv, hasFlags_setFlags ..,
    keeps8_trans (l' := []) hkeep (keeps8_setFlags _ _ _ _ _), keepsSpPc_trans hsp (keepsSpPc_setFlags ..)⟩

/-- HL and the flags are written. -/
theorem hl_flags_next {s : State} {k : Nat} {r : StepResult} {v : Word} {z n h cy : Bool}
    (hr : r = .next (((internals k s).set16 .hl v).setFlags z n h cy)) :
    ∃ t, r = .next t ∧ s.onlyRegs k t ∧ t.hl = v ∧ t.hasFlags z n h cy ∧ s.keeps8 [.h, .l] t ∧ s.keepsSpPc t := by
  have hregs := internals_regs k s
  refine ⟨_, hr, onlyRegs_setFlags (onlyRegs_set16 (onlyRegs_internals s k) ..) .., ?_, hasFlags_setFlags .., ?_, ?_⟩
  · exact (setFlags_get16 ..).trans (get16_set16_same ..)
  · exact keeps8_trans (keeps8_of_regs hregs []) (keeps8_trans (keeps8_set16_hl _ _) (keeps8_setFlags _ _ _ _ _))
  · exact keepsSpPc_trans (keepsSpPc_of_regs hregs) (keepsSpPc_trans (keepsSpPc_set16_hl ..) (keepsSpPc_setFlags ..))

/-! A byte of memory. -/

/-- A store that ends its instruction. -/
theorem store_next {addr : Word} (h : mapped addr = true) (v : Byte) (s : State) :
    ∃ t, (memWrite addr v s fun s => .next s) = .next t ∧ busWrite addr v (internal s) = some t ∧ t.regs = s.regs ∧
      s.storesAt 1 addr t := by
  obtain ⟨t, hw, hexec⟩ := memWrite_mapped h v s
  exact ⟨t, hexec _, hw, (busWrite_frame hw).1, storesAt_of_busWrite hw (internals_cell 1 s)⟩

/-- The write of a byte to HL after a read M-cycle there goes on. -/
theorem modifyAtHl_write {s : State} {v : Byte} (hv : busRead s.hl (internal s) = some v) (x : Byte) :
    ∃ w, busWrite s.hl x (internals 2 s) = some w ∧ (∀ k, memWrite s.hl x (internal s) k = k w) ∧ w.regs = s.regs ∧
      s.storesAt 2 s.hl w := by
  obtain ⟨w, hw, hexec⟩ := memWrite_mapped (mapped_of_busRead hv) x (internal s)
  exact ⟨w, hw, hexec, (busWrite_frame hw).1.trans (internals_regs 2 s), storesAt_of_busWrite hw (internals_cell 2 s)⟩

/-- A byte is read at HL, another one is written there, and then the flags are written. -/
theorem modifyAtHl_flags_next {s : State} {r : StepResult} {v x : Byte} {z n h cy : Bool}
    (hv : busRead s.hl (internal s) = some v)
    (hr : r = memWrite s.hl x (internal s) fun w => .next (w.setFlags z n h cy)) :
    ∃ w t, busWrite s.hl x (internals 2 s) = some w ∧ r = .next t ∧ t = { w with regs := t.regs } ∧ t.hasFlags z n h cy ∧
      s.keeps8 [] t ∧ s.keepsSpPc t ∧ s.storesAt 2 s.hl t := by
  obtain ⟨w, hw, hexec, hregs, hstores⟩ := modifyAtHl_write hv x
  refine ⟨w, _, hw, hr.trans (hexec _), rfl, hasFlags_setFlags .., ?_, ?_, hstores⟩
  · exact keeps8_trans (keeps8_of_regs hregs []) (keeps8_setFlags _ _ _ _ _)
  · exact keepsSpPc_trans (keepsSpPc_of_regs hregs) (keepsSpPc_setFlags ..)

/-- A byte is read at HL and another one is written there. -/
theorem modifyAtHl_store_next {s : State} {r : StepResult} {v x : Byte} (hv : busRead s.hl (internal s) = some v)
    (hr : r = memWrite s.hl x (internal s) fun w => .next w) :
    ∃ t, busWrite s.hl x (internals 2 s) = some t ∧ r = .next t ∧ t.regs = s.regs ∧ s.storesAt 2 s.hl t := by
  obtain ⟨t, hw, hexec, hframe⟩ := modifyAtHl_write hv x
  exact ⟨t, hw, hr.trans (hexec _), hframe⟩

end Sys2Proof.Machine
end

section
/-! Loads and stores (R200 to R222). -/

namespace Sys2Proof.Machine

/-! Loads. -/

/-- Settles O13: each form is `loadReg` of the operand's value. -/
theorem loadRegister : Obligations.LoadRegister := by
  intro s dst i v k h
  have hexec : exec i s = loadReg dst v (internals k s) := by
    obtain ⟨src, rfl, rfl, rfl⟩ | ⟨rfl, rfl⟩ | ⟨rfl, hv, rfl⟩ := h
    · exact exec_rowLdRegReg ..
    · exact exec_rowLdRegN8 ..
    · exact (exec_rowLdRegAtHl ..).trans (memRead_some hv _)
  rw [hexec]
  exact loadReg_next s k dst v

/-- Settles O15: each form is `loadReg` of A after a read M-cycle at its address. -/
theorem loadAccumulator : Obligations.LoadAccumulator := by
  intro s i addr v h hv
  have hexec : exec i s = loadA addr s := by
    obtain ⟨rfl, rfl⟩ | ⟨rfl, rfl⟩ | rfl | ⟨n, rfl, rfl⟩ | ⟨rfl, rfl⟩ := h
    · rfl
    · rfl
    · rfl
    · rw [← highPage_eq]; rfl
    · rw [← highPage_eq]; rfl
  rw [hexec, show loadA addr s = loadReg .a v (internals 1 s) from memRead_some hv _]
  exact loadReg_next s 1 .a v

/-- Settles O18. -/
theorem loadPair : Obligations.LoadPair := by
  intro s p i v k h
  have hexec : exec i s = load16 p v (internals k s) := by
    obtain ⟨rfl, rfl⟩ | ⟨rfl, rfl, rfl, rfl⟩ := h
    · exact exec_rowLdR16N16 ..
    · rfl
  rw [hexec]
  exact load16_next s k p v

/-! Stores. -/

/-- Settles O14. -/
theorem storeAtHl_frame : Obligations.StoreAtHl := by
  intro s i v hm h
  have hexec : exec i s = storeAtHl v s := by
    obtain ⟨r, rfl, rfl⟩ | rfl := h
    · exact exec_rowLdAtHlReg ..
    · rfl
  rw [hexec]
  exact store_next hm v s

/-- Settles O16. -/
theorem storeAccumulator : Obligations.StoreAccumulator := by
  intro s i addr h hm
  have hexec : exec i s = storeA addr s := by
    obtain ⟨rfl, rfl⟩ | ⟨rfl, rfl⟩ | rfl | ⟨n, rfl, rfl⟩ | ⟨rfl, rfl⟩ := h
    · rfl
    · rfl
    · rfl
    · rw [← highPage_eq]; rfl
    · rw [← highPage_eq]; rfl
  rw [hexec]
  exact store_next hm s.regs.a s

theorem loadAStep_next {s : State} {v : Byte} (hv : busRead s.hl (internal s) = some v) (step : Word) :
    ∃ t, loadAStep step s = .next t ∧ s.onlyRegs 1 t ∧ t.regs.a = v ∧ t.hl = s.hl + step ∧ s.keeps8 [.a, .h, .l] t ∧
      s.keepsF t ∧ s.keepsSpPc t :=
  ⟨_, memRead_some hv _, onlyRegs_set16 (onlyRegs_set8 (onlyRegs_internals s 1) ..) .., rfl, get16_set16_same ..,
    keeps8_trans (keeps8_set8 s .a v) (keeps8_set16_hl _ _), rfl, rfl, rfl⟩

theorem storeAStep_next {s : State} (hm : mapped s.hl = true) (step : Word) :
    ∃ w t, busWrite s.hl s.regs.a (internal s) = some w ∧ storeAStep step s = .next t ∧ t = { w with regs := t.regs } ∧
      t.hl = s.hl + step ∧ s.keeps8 [.h, .l] t ∧ s.keepsF t ∧ s.keepsSpPc t ∧ s.storesAt 1 s.hl t := by
  obtain ⟨w, hw, hexec⟩ := memWrite_mapped hm s.regs.a s
  have hr : w.regs = s.regs := (busWrite_frame hw).1
  have hstores : s.storesAt 1 s.hl w := storesAt_of_busWrite hw (internals_cell 1 s)
  refine ⟨w, _, hw, hexec _, rfl, ?_, keeps8_trans (keeps8_of_regs hr []) (keeps8_set16_hl w _),
    (set16_regs_f ..).trans (congrArg Regs.f hr), keepsSpPc_trans (keepsSpPc_of_regs hr) (keepsSpPc_set16_hl ..), hstores⟩
  exact (get16_set16_same ..).trans (congrArg (Regs.get16 · .hl + step) hr)

/-- Settles O17. -/
theorem postModifyLoadsAndStores : Obligations.PostModifyLoadsAndStores := by
  refine ⟨fun s i step v h hv => ?_, fun s i step h hm => ?_⟩
  · have hexec : exec i s = loadAStep step s := by obtain ⟨rfl, rfl⟩ | ⟨rfl, rfl⟩ := h <;> rfl
    rw [hexec]
    exact loadAStep_next hv step
  · have hexec : exec i s = storeAStep step s := by obtain ⟨rfl, rfl⟩ | ⟨rfl, rfl⟩ := h <;> rfl
    rw [hexec]
    exact storeAStep_next hm step

/-- Settles O19: SP is read again after the first write, which leaves the registers. -/
theorem storeStackPointer : Obligations.StoreStackPointer := by
  intro s n hlo hhi
  obtain ⟨u, hu, hfirst⟩ := memWrite_mapped hlo (loByte s.regs.sp) s
  obtain ⟨hur, -⟩ := busWrite_frame hu
  obtain ⟨t, ht, hsecond⟩ := memWrite_mapped hhi (hiByte u.regs.sp) u
  obtain ⟨htr, -⟩ := busWrite_frame ht
  refine ⟨u, t, hu, ?_, (hfirst _).trans (hsecond _), htr.trans hur, fun a ha hb => ?_⟩
  · rw [← ht, hur]; rfl
  · exact ((busWrite_cells ht).1 a hb).trans ((busWrite_cells hu).1 a ha)

/-! SP plus an offset. -/

theorem exec_addSpE8 (e : Byte) (s : State) :
    exec (.addSpE8 e) s = .next (((internals 2 s).setSp (s.regs.sp + sext8 e)).setFlags false false (spadd s.regs.sp e).2.1
      (spadd s.regs.sp e).2.2) := rfl

theorem exec_ldHlSpE8 (e : Byte) (s : State) :
    exec (.ldHlSpE8 e) s = .next (((internals 1 s).set16 .hl (s.regs.sp + sext8 e)).setFlags false false (spadd s.regs.sp e).2.1
      (spadd s.regs.sp e).2.2) := rfl

/-- Settles O20: the sum is a signed one by `sext_sum`; the internal M-cycles do not look at the registers. -/
theorem stackPointerPlusOffset : Obligations.StackPointerPlusOffset := by
  intro s e sum half carry
  have hsum : s.regs.sp + sext8 e = sum := sext_sum ..
  constructor
  · refine ⟨_, exec_addSpE8 e s, onlyRegs_setFlags (onlyRegs_setSp (onlyRegs_internals s 2) _) .., hsum, hasFlags_setFlags ..,
      ?_, rfl⟩
    exact keeps8_trans (keeps8_of_regs (internals_regs 2 s) []) (keeps8_trans (keeps8_setSp _ _) (keeps8_setFlags _ _ _ _ _))
  · obtain ⟨t, hexec, honly, hhl, hframe⟩ := hl_flags_next (exec_ldHlSpE8 e s)
    exact ⟨t, hexec, honly, hhl.trans hsum, hframe⟩

end Sys2Proof.Machine
end

section
/-! Arithmetic and logic: the ALU family, INC and DEC, 16-bit sums, rotates, bits, DAA (R110 to R195, R265 to R268). -/

namespace Sys2Proof.Machine

/-! The ALU family. -/

theorem add8_res (a v : Byte) (c : Bool) : (add8 a v c).res.toNat = (a.toNat + v.toNat + c.toNat) % 256 := BitVec.toNat_ofNat ..

theorem add8_z (a v : Byte) (c : Bool) : (add8 a v c).z = decide ((a.toNat + v.toNat + c.toNat) % 256 = 0) := by
  rw [← add8_res]
  exact byte_eq_zero_iff _

/-- Settles O21: both operations are `add8`, ADC with the carry flag. -/
theorem addToAccumulator : Obligations.AddToAccumulator := by
  intro s op i v k c hop hform
  obtain ⟨b, rfl, hb, hcp⟩ : ∃ b : Bool, c = b.toNat ∧ aluResult op s.regs.a v s.cf = add8 s.regs.a v b ∧ op ≠ .cp := by
    obtain ⟨rfl, rfl⟩ | ⟨rfl, rfl⟩ := hop
    · exact ⟨false, rfl, rfl, by decide⟩
    · exact ⟨s.cf, rfl, rfl, by decide⟩
  obtain ⟨t, hexec, honly, ha, hflags, hkeep, hsp⟩ := aluForm_result hform
  rw [if_neg hcp] at ha
  rw [hb] at ha hflags
  rw [add8_z] at hflags
  exact ⟨t, hexec, honly, ha ▸ add8_res .., hflags, hkeep, hsp⟩

theorem sub8_res (a v : Byte) (c : Bool) : ((sub8 a v c).res.toNat : Int) = ((a.toNat : Int) - v.toNat - c.toNat) % 256 :=
  toNat_ofInt8 _

theorem sub8_z (a v : Byte) (c : Bool) : (sub8 a v c).z = decide (((a.toNat : Int) - v.toNat - c.toNat) % 256 = 0) :=
  (byte_eq_zero_iff _).trans (decide_eq_decide.2 (by rw [← sub8_res, Int.natCast_eq_zero]; rfl))

/-- Settles O22: both operations are `sub8`, SBC with the carry flag. -/
theorem subtractFromAccumulator : Obligations.SubtractFromAccumulator := by
  intro s op i v k c hop hform
  obtain ⟨b, rfl, hb, hcp⟩ : ∃ b : Bool, c = b.toNat ∧ aluResult op s.regs.a v s.cf = sub8 s.regs.a v b ∧ op ≠ .cp := by
    obtain ⟨rfl, rfl⟩ | ⟨rfl, rfl⟩ := hop
    · exact ⟨false, rfl, rfl, by decide⟩
    · exact ⟨s.cf, rfl, rfl, by decide⟩
  obtain ⟨t, hexec, honly, ha, hflags, hkeep, hsp⟩ := aluForm_result hform
  rw [if_neg hcp] at ha
  rw [hb] at ha hflags
  rw [sub8_z] at hflags
  exact ⟨t, hexec, honly, ha ▸ sub8_res .., hflags, hkeep, hsp⟩

/-- Without a borrow in, the difference is 0 exactly of equal bytes. -/
theorem sub8_z_eq (a v : Byte) : (sub8 a v false).z = decide (a = v) := by
  have ha := a.isLt
  have hv := v.isLt
  rw [sub8_z, decide_eq_decide, BitVec.toNat_inj.symm, Bool.toNat_false]
  omega

/-- Settles O23: CP is SUB's flags without the write of A. -/
theorem compareWithAccumulator : Obligations.CompareWithAccumulator := by
  intro s i v k hform
  obtain ⟨t, hexec, honly, ha, hflags, hkeep, hsp⟩ := aluForm_result hform
  rw [show aluResult .cp s.regs.a v s.cf = sub8 s.regs.a v false from rfl, sub8_z_eq] at hflags
  refine ⟨t, hexec, honly, hflags, fun r _ => ?_, hsp⟩
  by_cases hr : r = .a
  · exact hr ▸ ha
  · exact hkeep r (by simpa using hr)

/-- Settles O24: the three operations are `logic8` of the bitwise result, H set for AND. -/
theorem logicOnAccumulator : Obligations.LogicOnAccumulator := by
  intro s op i v res k hop hform
  have hlogic : aluResult op s.regs.a v s.cf = logic8 res (decide (op = .and)) ∧ op ≠ .cp := by
    obtain ⟨rfl, rfl⟩ | ⟨rfl, rfl⟩ | ⟨rfl, rfl⟩ := hop
    · exact ⟨rfl, by decide⟩
    · exact ⟨rfl, by decide⟩
    · exact ⟨rfl, by decide⟩
  obtain ⟨hres, hcp⟩ := hlogic
  obtain ⟨t, hexec, honly, ha, hflags, hkeep, hsp⟩ := aluForm_result hform
  rw [if_neg hcp] at ha
  rw [hres] at ha hflags
  exact ⟨t, hexec, honly, ha, hflags, hkeep, hsp⟩

/-! INC and DEC. -/

theorem toNat_add_one (v : Byte) : (v + 1).toNat = (v.toNat + 1) % 256 := BitVec.toNat_add v 1

theorem toNat_sub_one (v : Byte) : (v - 1).toNat = (v.toNat + 255) % 256 := by
  rw [BitVec.toNat_sub, Nat.add_comm]; rfl

/-- Settles O25. -/
theorem incDecRegister : Obligations.IncDecRegister := by
  intro s r
  constructor
  · obtain ⟨t, hexec, honly, hv, hflags, hkeep, hsp⟩ := reg_flags_next (k := 0) (exec_rowIncReg r s)
    exact ⟨t, hexec, honly, hv ▸ toNat_add_one _, inc_z (s.get8 r) ▸ hflags, hkeep, hsp⟩
  · obtain ⟨t, hexec, honly, hv, hflags, hkeep, hsp⟩ := reg_flags_next (k := 0) (exec_rowDecReg r s)
    exact ⟨t, hexec, honly, hv ▸ toNat_sub_one _, dec_z (s.get8 r) ▸ hflags, hkeep, hsp⟩

theorem exec_incAtHl (s : State) : exec .incAtHl s = incAtHl s := rfl

theorem exec_decAtHl (s : State) : exec .decAtHl s = decAtHl s := rfl

/-- Settles O26. -/
theorem incDecAtHl : Obligations.IncDecAtHl := by
  intro s v hv
  rw [← inc_z, ← dec_z]
  exact ⟨modifyAtHl_flags_next hv ((exec_incAtHl s).trans (memRead_some hv _)),
    modifyAtHl_flags_next hv ((exec_decAtHl s).trans (memRead_some hv _))⟩

/-! 16-bit arithmetic. -/

theorem inc16_eq_load16 (p : Reg16) (s : State) : inc16 p s = load16 p (s.get16 p + 1) (internals 1 s) := by
  rw [inc16, internal_set16]; rfl

theorem dec16_eq_load16 (p : Reg16) (s : State) : dec16 p s = load16 p (s.get16 p - 1) (internals 1 s) := by
  rw [dec16, internal_set16]; rfl

/-- Settles O27: INC and DEC are a load of the pair after an internal M-cycle, ADD HL a load of HL with the flags. -/
theorem pairArithmetic : Obligations.PairArithmetic := by
  intro s p
  constructor
  · intro i v h
    obtain ⟨w, hexec, rfl⟩ : ∃ w : Word, exec i s = load16 p w (internals 1 s) ∧ w.toNat = v := by
      obtain ⟨rfl, hv⟩ | ⟨rfl, hv⟩ := h
      · exact ⟨s.get16 p + 1, (exec_rowIncR16 ..).trans (inc16_eq_load16 p s), by rw [hv, BitVec.toNat_add]; rfl⟩
      · exact ⟨s.get16 p - 1, (exec_rowDecR16 ..).trans (dec16_eq_load16 p s),
          by rw [hv, BitVec.toNat_sub, Nat.add_comm]; rfl⟩
    rw [hexec]
    obtain ⟨t, hload, honly, hp, hframe⟩ := load16_next s 1 p w
    exact ⟨t, hload, honly, congrArg BitVec.toNat hp, hframe⟩
  · obtain ⟨t, hexec, honly, hhl, hframe⟩ := hl_flags_next (k := 1) (exec_rowAddHl p s)
    exact ⟨t, hexec, honly, by rw [hhl]; exact BitVec.toNat_ofNat .., hframe⟩

/-! Rotates and shifts. -/

theorem ofNat_rotNat (op : RotOp) (v : Byte) (c : Bool) : BitVec.ofNat 8 (rotNat op v.toNat c.toNat).1 = (rotResult op v c).1 := by
  rw [← (rot_eq op v c).1, BitVec.ofNat_toNat, BitVec.setWidth_eq]

/-- Settles O28: the operation on bits is the one on numbers (`rot_eq`). -/
theorem rotateAndShift : Obligations.RotateAndShift := by
  refine ⟨fun s op r => ?_, fun s op v hv => ?_, fun s i op h => ?_⟩
  · obtain ⟨hres, hout⟩ := rot_eq op (s.get8 r) s.cf
    obtain ⟨t, hexec, honly, hr, hflags, hkeep, hsp⟩ := reg_flags_next (k := 0) (exec_rowRotReg op r s)
    rw [rot_z, hout] at hflags
    exact ⟨t, hexec, honly, hr ▸ hres, hflags, hkeep, hsp⟩
  · dsimp only
    rw [ofNat_rotNat, ← rot_z, ← (rot_eq op v s.cf).2]
    exact modifyAtHl_flags_next hv ((exec_rowRotAtHl op s).trans (memRead_some hv _))
  · have hexec : exec i s = rotA op s := by obtain ⟨rfl, rfl⟩ | ⟨rfl, rfl⟩ | ⟨rfl, rfl⟩ | ⟨rfl, rfl⟩ := h <;> rfl
    obtain ⟨hres, hout⟩ := rot_eq op s.regs.a s.cf
    obtain ⟨t, hexec, honly, hr, hflags, hkeep, hsp⟩ := reg_flags_next (k := 0) (dst := .a) hexec
    rw [hout] at hflags
    exact ⟨t, hexec, honly, (congrArg BitVec.toNat hr).trans hres, hflags, hkeep, hsp⟩

/-! Bits. -/

/-- Settles O29. -/
theorem bitTest : Obligations.BitTest := by
  intro s b i v k h
  have hexec : exec i s = .next (bitFlags b v (internals k s)) := by
    obtain ⟨r, rfl, rfl, rfl⟩ | ⟨rfl, hv, rfl⟩ := h
    · exact exec_rowBitReg ..
    · exact (exec_rowBitAtHl ..).trans (memRead_some hv _)
  rw [bitFlags, internals_cf, bit_eq] at hexec
  exact flags_next hexec

/-- RES and SET on the bits of a byte. -/
def changeBit (v : Byte) (b : Fin 8) (on : Bool) : Byte := if on then setBit v b else clearBit v b

theorem changeBit_bits (v : Byte) (b j : Fin 8) (on : Bool) :
    (changeBit v b on).getLsbD j.val = if j = b then on else v.getLsbD j.val := by
  cases on
  · exact clearBit_bits v b j
  · exact setBit_bits v b j

/-- Settles O30: on a register a load of the changed byte, on [HL] a store of it. -/
theorem resAndSetBits : Obligations.ResAndSetBits := by
  constructor
  · intro s b r i on h
    have hexec : exec i s = loadReg r (changeBit (s.get8 r) b on) (internals 0 s) := by
      obtain ⟨rfl, rfl⟩ | ⟨rfl, rfl⟩ := h
      · exact exec_rowResReg ..
      · exact exec_rowSetReg ..
    rw [hexec]
    obtain ⟨t, hload, honly, hr, hframe⟩ := loadReg_next s 0 r (changeBit (s.get8 r) b on)
    exact ⟨t, hload, honly, fun j => hr ▸ changeBit_bits .., hframe⟩
  · intro s b v i on h hv
    have hexec : exec i s = memWrite s.hl (changeBit v b on) (internal s) fun w => .next w := by
      obtain ⟨rfl, rfl⟩ | ⟨rfl, rfl⟩ := h
      · exact (exec_rowResAtHl ..).trans (memRead_some hv _)
      · exact (exec_rowSetAtHl ..).trans (memRead_some hv _)
    obtain ⟨t, hw, hnext, hframe⟩ := modifyAtHl_store_next hv hexec
    exact ⟨_, t, fun j => changeBit_bits v b j on, hw, hnext, hframe⟩

/-! DAA, CPL, SCF, CCF. -/

/-- The adjustment by its two digits (R265). -/
theorem daaAdj_cases (a : Nat) (n h cy : Bool) {low high : Prop} (hlow : low ↔ h = true ∨ (n = false ∧ a % 16 > 9))
    (hhigh : high ↔ cy = true ∨ (n = false ∧ a > 0x99)) :
    (low ∧ high ∧ daaAdj a n h cy = 0x66) ∨ (low ∧ ¬ high ∧ daaAdj a n h cy = 0x06) ∨
      (¬ low ∧ high ∧ daaAdj a n h cy = 0x60) ∨ (¬ low ∧ ¬ high ∧ daaAdj a n h cy = 0) := by
  classical
  have hadj : daaAdj a n h cy = (if low then 6 else 0) + (if high then 0x60 else 0) := by simp [daaAdj, hlow, hhigh]
  by_cases hl : low <;> by_cases hh : high <;> simp [hadj, hl, hh]

/-- Settles O31: `daaResult` in terms of the adjustment is `daa_eq`. -/
theorem decimalAdjust_spec : Obligations.DecimalAdjust := by
  intro s low high
  obtain ⟨hres, hcarry⟩ := daa_eq s.regs.a s.nf s.hf s.cf
  obtain ⟨t, hexec, honly, ha, ⟨hz, hn, hh, hc, hok⟩, hkeep, hsp⟩ :=
    reg_flags_next (k := 0) (show exec .daa s = _ from rfl)
  rw [hcarry] at hc
  refine ⟨t, daaAdj s.regs.a.toNat s.nf s.hf s.cf, hexec, honly, daaAdj_cases _ _ _ _ Iff.rfl Iff.rfl,
    (congrArg BitVec.toNat ha).trans hres, ?_, hn, hh, ?_, hok, hkeep, hsp⟩
  · rw [hz, show t.regs.a = _ from ha]; rfl
  · rw [hc]; simp [high]

/-! Two packed-BCD bytes `16 * xh + xl` and `16 * yh + yl` and a carry `c`: DAA's tests find the decimal carries of the digits. -/

section
variable {xh xl yh yl c : Nat} (hxl : xl < 10) (hyl : yl < 10) (hc : c ≤ 1)
include hxl hyl hc

theorem bcd_low_iff : (xh * 16 + xl) % 16 + (yh * 16 + yl) % 16 + c > 15 ∨ (xh * 16 + xl + (yh * 16 + yl) + c) % 256 % 16 > 9 ↔
    xl + yl + c > 9 := by
  omega

variable (hxh : xh < 10) (hyh : yh < 10)
include hxh hyh

theorem bcd_high_iff : xh * 16 + xl + (yh * 16 + yl) + c > 255 ∨ (xh * 16 + xl + (yh * 16 + yl) + c) % 256 > 0x99 ↔
    10 * xh + xl + (10 * yh + yl) + c ≥ 100 := by
  omega

/-- The binary sum with the adjustment is the packed-BCD sum. -/
theorem bcd_adjusted {adj : Nat} {low high : Prop} (hlow : low ↔ xl + yl + c > 9)
    (hhigh : high ↔ 10 * xh + xl + (10 * yh + yl) + c ≥ 100)
    (hadj : (low ∧ high ∧ adj = 0x66) ∨ (low ∧ ¬ high ∧ adj = 0x06) ∨ (¬ low ∧ high ∧ adj = 0x60) ∨
      (¬ low ∧ ¬ high ∧ adj = 0)) :
    ((xh * 16 + xl + (yh * 16 + yl) + c) % 256 + adj) % 256 =
      (10 * xh + xl + (10 * yh + yl) + c) / 10 % 10 * 16 + (10 * xh + xl + (10 * yh + yl) + c) % 10 := by
  rw [hlow, hhigh] at hadj
  rcases hadj with ⟨h1, h2, rfl⟩ | ⟨h1, h2, rfl⟩ | ⟨h1, h2, rfl⟩ | ⟨h1, h2, rfl⟩ <;> omega

end

/-- Settles O32: the adjustments of `decimalAdjust_spec` on the sum and flags of `addToAccumulator`, digit by digit. -/
theorem decimalAdjustAfterAddition : Obligations.DecimalAdjustAfterAddition := by
  intro s op x y c hx hy ha hop
  have hc : c ≤ 1 := by
    obtain ⟨-, rfl⟩ | ⟨-, rfl⟩ := hop
    · exact Nat.zero_le 1
    · exact Bool.toNat_le _
  have hv : (BitVec.ofNat 8 (y / 10 * 16 + y % 10)).toNat = y / 10 * 16 + y % 10 :=
    (BitVec.toNat_ofNat ..).trans (Nat.mod_eq_of_lt (by omega))
  obtain ⟨t, hadd, -, hsum, ⟨-, hn, hh, hcy, -⟩, -, -⟩ := addToAccumulator s op _ _ 0 c hop (.inr (.inl ⟨rfl, rfl⟩))
  obtain ⟨u, adj, hdaa, -, hadj, hres, -, -, -, hcarry, -⟩ := decimalAdjust_spec t
  rw [hv, ha] at hsum hh hcy
  simp only [hn, hh, hcy, hsum, decide_eq_true_eq, true_and, Bool.false_eq_true, if_false] at hadj hres hcarry
  have hdigits (n : Nat) (hn : n < 100) : n % 10 < 10 ∧ n / 10 < 10 ∧ 10 * (n / 10) + n % 10 = n := by omega
  obtain ⟨hxl, hxh, hx⟩ := hdigits x hx
  obtain ⟨hyl, hyh, hy⟩ := hdigits y hy
  have hhigh := bcd_high_iff hxl hyl hc hxh hyh
  have hbcd := bcd_adjusted hxl hyl hc hxh hyh (bcd_low_iff hxl hyl hc) hhigh hadj
  rw [hx, hy] at hbcd hhigh
  exact ⟨t, u, hadd, hdaa, hres.trans hbcd, by rw [Bool.eq_iff_iff, hcarry, hhigh, decide_eq_true_eq]⟩

theorem toNat_complement (a : Byte) : (a ^^^ 0xFF).toNat = 255 - a.toNat := by
  have hnot : a ^^^ 0xFF = ~~~a := BitVec.xor_allOnes
  rw [hnot, BitVec.toNat_not]

/-- Settles O33. -/
theorem complementAndCarryFlags : Obligations.ComplementAndCarryFlags := by
  intro s
  refine ⟨?_, flags_next (k := 0) rfl, flags_next (k := 0) rfl⟩
  obtain ⟨t, hexec, honly, ha, hflags, hkeep, hsp⟩ := reg_flags_next (k := 0) (show exec .cpl s = _ from rfl)
  exact ⟨t, hexec, honly, (congrArg BitVec.toNat ha).trans (toNat_complement _), hflags, hkeep, hsp⟩

end Sys2Proof.Machine
end

section
/-! Jumps, calls, returns, and the stack (R240 to R262). -/

namespace Sys2Proof.Machine

/-! Jumps. -/

/-- Only PC is written, after `k` M-cycles. -/
theorem pc_next {s : State} {k : Nat} {r : StepResult} {target : Word} (hr : r = .next ((internals k s).setPc target)) :
    ∃ t, r = .next t ∧ s.onlyRegs k t ∧ t.regs = { s.regs with pc := target } :=
  ⟨_, hr, onlyRegs_regs (onlyRegs_internals s k) _, by rw [State.setPc, internals_regs]⟩

theorem jump_eq (target : Word) (s : State) : jump target s = .next ((internals 1 s).setPc target) := rfl

theorem jumpRelative_eq (e : Byte) (s : State) :
    jumpRelative e s = jump (BitVec.ofInt 16 (s.regs.pc.toNat + e.toInt)) s := by
  rw [jumpRelative, sext_sum]

theorem cond_eq_false {cc : Cond} {s : State} (h : ¬ condHolds cc s) : ¬ s.cond cc = true := fun hc => h ((cond_iff' cc s).1 hc)

/-- Settles O34. -/
theorem jumps : Obligations.Jumps := by
  constructor
  · intro s i target k h
    refine pc_next ?_
    obtain ⟨rfl, rfl⟩ | ⟨rfl, rfl, rfl⟩ | ⟨e, rfl, rfl, rfl⟩ := h
    · rfl
    · rfl
    · exact (jumpRelative_eq e s).trans (jump_eq _ s)
  · intro s cc i target h
    have hexec : exec i s = if s.cond cc then jump target s else .next s := by
      obtain rfl | ⟨e, rfl, rfl⟩ := h
      · exact exec_rowJpCc ..
      · rw [exec_rowJrCc, jumpRelativeIf, jumpRelative_eq]
    rw [hexec]
    exact ⟨fun hc => pc_next (if_pos ((cond_iff' cc s).2 hc)), fun hc => if_neg (cond_eq_false hc)⟩

/-! Calls and returns. -/

/-- Settles O35: every form taken is `call`. -/
theorem callsAndRestarts : Obligations.CallsAndRestarts := by
  constructor
  · intro s i target h h1 h2
    have hexec : exec i s = call target s := by
      obtain rfl | ⟨cc, hc, rfl⟩ | ⟨y, rfl, rfl⟩ := h
      · rfl
      · exact (exec_rowCallCc ..).trans (if_pos ((cond_iff' cc s).2 hc))
      · exact exec_rowRst ..
    rw [hexec]
    exact call_result h1 h2
  · intro s cc target hc
    exact (exec_rowCallCc ..).trans (if_neg (cond_eq_false hc))

/-- What a return of `v` leaves, where its pop begins after `k` M-cycles. -/
theorem ret_frame {s : State} {k : Nat} {v : Word} (h : s.pops k v) :
    ∃ t, ret (internals k s) = .next t ∧ s.onlyRegs (k + 3) t ∧ t.regs = { s.regs with sp := s.regs.sp + 2, pc := v } :=
  ⟨_, ret_next h, onlyRegs_withRegs s (k + 3) _, rfl⟩

theorem reti_frame {s : State} {k : Nat} {v : Word} (h : s.pops k v) :
    ∃ t, returnFromInterrupt (internals k s) = .next t ∧ t = { internals (k + 3) s with regs := t.regs, ime := true } ∧
      (∀ a, t.cell a = s.cell a) ∧ t.regs = { s.regs with sp := s.regs.sp + 2, pc := v } :=
  ⟨_, reti_next h, rfl, fun a => (cell_congr rfl a).trans (internals_cell (k + 3) s a), rfl⟩

/-- Settles O36. -/
theorem returns : Obligations.Returns := by
  refine ⟨fun s v hv => ⟨ret_frame hv, reti_frame hv⟩, fun s cc v hc hv => ?_, fun s cc hc => ?_⟩
  · rw [exec_rowRetCc, retIf, if_pos ((cond_iff' cc s).2 hc)]
    exact ret_frame hv
  · rw [exec_rowRetCc, retIf, if_neg (cond_eq_false hc)]
    exact ⟨_, rfl, onlyRegs_internals s 1, rfl⟩

/-! PUSH and POP. -/

/-- Settles O37. -/
theorem pushPair : Obligations.PushPair := by
  intro s p h1 h2
  obtain ⟨w, hw, hpush⟩ := push16_pushed 1 (s.getStk p) h1 h2 (fun s => .next s)
  exact ⟨w, _, hw, (exec_rowPush p s).trans hpush, rfl, fun _ => rfl, rfl⟩

theorem getStk_setStk_other {p q : Reg16Stk} (h : q ≠ p) (s : State) (v : Word) : (s.setStk p v).getStk q = s.getStk q := by
  cases p <;> cases q <;> try rfl
  all_goals exact absurd rfl h

theorem getStk_withSp (s : State) (g : Regs) (sp : Word) (q : Reg16Stk) :
    State.getStk { s with regs := { g with sp := sp } } q = g.getStk q := by
  cases q <;> rfl

/-- Settles O38. -/
theorem popPair : Obligations.PopPair := by
  intro s p v hv
  refine ⟨_, pop_result hv, onlyRegs_regs (onlyRegs_withRegs s 2 _) _, fun q hq => ?_, fun hp => getStk_setStk_same hp _ v,
    fun hp => ?_, setStk_regs_sp .., setStk_regs_pc ..⟩
  · exact (getStk_setStk_other hq _ v).trans (getStk_withSp ..)
  · subst hp
    exact ⟨rfl, rfl⟩

end Sys2Proof.Machine
end

section
/-! The system instructions, faults, accesses without a device, and taking an interrupt (R270 to R276, R300 to R303, R320). -/

namespace Sys2Proof.Machine

/-! The system instructions. -/

/-- Settles O40: each of the five is a single update of the control bits. -/
theorem systemInstructions : Obligations.SystemInstructions := fun _ _ => ⟨rfl, rfl, rfl, rfl, rfl⟩

/-! The fault latch. -/

theorem raise_of_running (c : FaultCause) {s : State} (h : s.running) : raise c s = stopped c { s with fault := some c } := by
  rw [raise, h]; rfl

theorem raise_of_latched (c : FaultCause) {d : FaultCause} {s : State} (h : s.fault = some d) : raise c s = stopped d s := by
  rw [raise, h, Option.getD_some, ← h]

theorem stopped_fault (c : FaultCause) (s : State) : ∃ f, stopped c s = .fault f := by
  cases c <;> exact ⟨_, rfl⟩

/-- Settles O43. -/
theorem faultLatchFreezes : Obligations.FaultLatchFreezes :=
  ⟨fun c _ h => raise_of_running c h, fun c _ _ h => raise_of_latched c h, fun c s => ⟨stopped_fault c s, stopped_ne_next c s⟩,
    fun _ _ h => step_latched h, fun _ _ h => ⟨step_next_running h, closed_fault.step (step_next_running h) h⟩⟩

/-! The illegal bytes. -/

theorem encode_illegal {x : Instr × Byte} (hx : x ∈ illegalRows) : encode x.1 = [x.2] := by
  unfold illegalRows at hx
  fin_cases hx <;> rfl

theorem illegal_wellFormed {x : Instr × Byte} (hx : x ∈ illegalRows) : x.1.wellFormed = true := by
  unfold illegalRows at hx
  fin_cases hx <;> rfl

/-- Settles O41. -/
theorem illegalRowsStop : Obligations.IllegalRowsStop :=
  ⟨rfl, fun _ hx => ⟨encode_illegal hx, fun _ hr => (exec_illegal hx _).trans (raise_of_running _ hr)⟩⟩

/-- IllegalOpcode out of fetching and running comes from an instruction that runs, with the byte fetched first. -/
theorem fetchAndRun_illegalOpcode {s f : State} {a : Word} {o : Byte} (hs : s.running)
    (h : fetchAndRun exec s = .fault (.illegalOpcode a o f)) :
    ∃ i op bs, encode i = op :: bs ∧ busRead s.regs.pc (internal s) = some op ∧
      exec i (fetched (encode i).length s) = .fault (.illegalOpcode a o f) := by
  obtain ⟨op, hop, h⟩ := fetch8_ill hs h
  rcases instrLength_cases op with hl | hl | hl <;> simp only [hl] at h
  · obtain ⟨-, he⟩ := len1 op hl
    exact ⟨_, op, [], he, hop, by rw [he]; exact h⟩
  · obtain ⟨b1, -, h⟩ := fetch8_ill (s := fetched 1 s) hs h
    obtain ⟨-, he⟩ := dec2 op b1 hl
    exact ⟨_, op, [b1], he, hop, by rw [he]; exact fetched_succ 1 s ▸ h⟩
  · obtain ⟨b1, -, h⟩ := fetch8_ill (s := fetched 1 s) hs h
    obtain ⟨b2, -, h⟩ := fetch8_ill (s := fetched 1 (fetched 1 s)) hs h
    obtain ⟨-, he⟩ := dec3 op b1 b2 hl
    exact ⟨_, op, [b1, b2], he, hop, by rw [he]; exact fetched_succ 2 s ▸ fetched_succ 1 (fetched 1 s) ▸ h⟩

theorem noIll_dispatch {k : IntKind} {s : State} (hs : s.running) : noIll (dispatch k s) :=
  noIll_push16 (s := internal (internal { s with ime := _, imePending := _, iflag := _ })) hs fun _ => noIll_next _

/-- The state in which an illegal byte has just been fetched, and its fault (R276). -/
theorem exec_illegal_fetched {x : Instr × Byte} (hx : x ∈ illegalRows) {s : State} (hs : s.running) :
    exec x.1 (fetched 1 s) =
      .fault (.illegalOpcode s.regs.pc x.2 { fetched 1 s with fault := some (.illegalOpcode s.regs.pc x.2) }) := by
  have hpc : (fetched 1 s).regs.pc - 1 = s.regs.pc := BitVec.add_sub_cancel ..
  rw [exec_illegal hx, hpc]
  exact raise_of_running (s := fetched 1 s) _ hs

/-- Settles O42. One way the step runs the illegal row; the other way neither a dispatch nor any other instruction raises it
(`noIll_exec`), and the rows' bytes are the eleven. -/
theorem illegalOpcodeOnlyFromIllegalBytes : Obligations.IllegalOpcodeOnlyFromIllegalBytes := by
  constructor
  · intro s op hw hop hmem
    obtain ⟨x, hx, rfl⟩ := List.mem_map.1 hmem
    have he := encode_illegal hx
    have hstep := stepRunsTheDecodedInstruction x.1 s (illegal_wellFormed hx) hw (he ▸ ⟨hop, trivial⟩)
    rw [he] at hstep
    exact hstep.trans (exec_illegal_fetched hx (s := s.atFetch) hw.1)
  · intro s fr addr op hr h
    rcases step_cases hr with ⟨k, hi, hp⟩ | ⟨hz, hh⟩ | hw
    · rw [step_dispatch hr hi hp] at h
      exact absurd h (noIll_dispatch (s := { s with halted := false }) hr _ _ _)
    · rw [step_idle hr hz hh] at h
      cases h
    · rw [step_fetch hw] at h
      obtain ⟨i, op', bs, he, hop, h⟩ := fetchAndRun_illegalOpcode (s := s.atFetch) hr h
      rcases noIll_exec i (s := fetched (encode i).length s.atFetch) ((internals_fault _ _).trans hr) with hn | hi
      · exact absurd h (hn _ _ _)
      · obtain ⟨x, hx, rfl⟩ := List.mem_map.1 hi
        have he' := encode_illegal hx
        rw [he', show [x.2].length = 1 from rfl, exec_illegal_fetched hx (s := s.atFetch) hr] at h
        rw [he'] at he
        cases he
        cases h
        exact ⟨hw, rfl, hop, List.mem_map.2 ⟨x, hx, rfl⟩, rfl⟩

/-! Addresses without a device. -/

theorem mapped_eq_false_iff (addr : Word) : mapped addr = false ↔ region addr = .unmapped := by
  rw [mapped, bne_eq_false_iff_eq]

/-- The four ranges of R53. -/
theorem region_unmapped_iff (addr : Word) : region addr = .unmapped ↔
    addr.toNat = 0xFF03 ∨ (0xFF08 ≤ addr.toNat ∧ addr.toNat ≤ 0xFF0E) ∨ (0xFF10 ≤ addr.toNat ∧ addr.toNat ≤ 0xFF3F) ∨
      (0xFF4C ≤ addr.toNat ∧ addr.toNat ≤ 0xFF7F) := by
  unfold region
  generalize addr.toNat = a
  grind (splits := 40)

theorem busRead_eq_none_iff (addr : Word) (s : State) : busRead addr s = none ↔ mapped addr = false := by
  refine ⟨fun h => ?_, fun h => busRead_unmapped h s⟩
  by_contra hm
  obtain ⟨v, hv⟩ := busRead_mapped (eq_true_of_ne_false hm) s
  simp [h] at hv

theorem busWrite_eq_none_iff (addr : Word) (v : Byte) (s : State) : busWrite addr v s = none ↔ mapped addr = false := by
  refine ⟨fun h => ?_, fun h => busWrite_unmapped h v s⟩
  by_contra hm
  obtain ⟨t, ht⟩ := busWrite_mapped (eq_true_of_ne_false hm) v s
  simp [h] at ht

/-- A fetch at an address without a device, after `n` bytes of the instruction (R294, R303). -/
theorem fetch8_fetched_unmapped {s : State} (hs : s.running) {n : Nat} (hm : mapped (s.regs.pc + BitVec.ofNat 16 n) = false)
    (k : Byte → State → StepResult) :
    fetch8 (fetched n s) k = unmappedAt (s.regs.pc + BitVec.ofNat 16 n)
      { internals (n + 1) s with regs := { s.regs with pc := s.regs.pc + BitVec.ofNat 16 n } } := by
  have hstate : internal (fetched n s) =
      { internals (n + 1) s with regs := { s.regs with pc := s.regs.pc + BitVec.ofNat 16 n } } := by
    rw [fetched, internal_setPc, ← internals_succ, State.setPc, internals_regs]
  rw [← hstate]
  exact fetch8_unmapped (s := fetched n s) ((internals_fault n s).trans hs) hm k

theorem fetched_zero (s : State) : fetched 0 s = s := by
  rw [fetched, show s.regs.pc + BitVec.ofNat 16 0 = s.regs.pc from BitVec.add_zero _]; rfl

/-- The fetches of an instruction end at the first address without a device. -/
theorem fetchAndRun_unmapped {s : State} {op : Byte} {bs got rest : List Byte} (hs : s.running) (he : op :: bs = got ++ rest)
    (hl : instrLength op = bs.length + 1) (hrest : rest ≠ []) (hf : fetches got s)
    (hm : mapped (s.regs.pc + BitVec.ofNat 16 got.length) = false) :
    fetchAndRun exec s = unmappedAt (s.regs.pc + BitVec.ofNat 16 got.length)
      { internals (got.length + 1) s with regs := { s.regs with pc := s.regs.pc + BitVec.ofNat 16 got.length } } := by
  match got, he, hf, hm with
  | [], _, _, hm =>
    have hstop := fetch8_fetched_unmapped (n := 0) hs hm
    rw [fetched_zero] at hstop
    exact hstop _
  | [_], he, hf, hm =>
    obtain ⟨rfl, rfl⟩ := List.cons.inj he
    have hstop := fetch8_fetched_unmapped (n := 1) hs hm
    rw [fetchAndRun, fetch8_some hf.1]
    rcases instrLength_cases op with h | h | h
    · exact absurd (List.length_eq_zero_iff.1 (Nat.succ.inj (hl.symm.trans h))) hrest
    · simp only [h]; exact hstop _
    · simp only [h]; exact hstop _
  | [_, b1], he, hf, hm =>
    obtain ⟨rfl, rfl⟩ := List.cons.inj he
    have hstop := fetch8_fetched_unmapped (n := 2) hs hm
    have hl : instrLength op = rest.length + 2 := hl
    have hpos := List.length_pos_of_ne_nil hrest
    have h3 : instrLength op = 3 := by rcases instrLength_cases op with h | h | h <;> omega
    rw [fetchAndRun, fetch8_some hf.1]
    simp only [h3]
    rw [fetch8_some hf.2.1, fetched_succ]
    exact hstop _
  | _ :: b1 :: b2 :: bs', he, _, _ =>
    obtain ⟨rfl, rfl⟩ := List.cons.inj he
    have hl : instrLength op = (bs' ++ rest).length + 3 := hl
    have hpos := List.length_pos_of_ne_nil (List.append_ne_nil_of_right_ne_nil bs' hrest)
    rcases instrLength_cases op with h | h | h <;> omega

/-- Settles O44. -/
theorem unmappedAccessFaults : Obligations.UnmappedAccessFaults := by
  refine ⟨fun addr => (mapped_eq_false_iff addr).trans (region_unmapped_iff addr),
    fun addr v s => ⟨busRead_eq_none_iff addr s, busWrite_eq_none_iff addr v s⟩,
    fun addr v s k k' hm hs => ⟨memRead_unmappedAt hs hm k, memWrite_unmappedAt hs hm v k'⟩, ?_⟩
  intro i s got rest hw he hrest hs hf addr hm
  obtain ⟨op, bs, he', hl⟩ := encode_head i hw
  rw [step_fetch hs]
  exact fetchAndRun_unmapped (s := s.atFetch) hs.1 (he'.symm.trans he) hl hrest hf hm

/-! The access that has no device ends the instruction. -/

/-- An instruction that accesses memory first ends there. -/
theorem accessesFirst_unmapped {i : Instr} {s : State} {addr : Word} (hs : s.running) (h : accessesFirst i s addr)
    (hm : mapped addr = false) : exec i s = unmappedAt addr (internal s) := by
  have read := memRead_unmappedAt hs hm
  have write := memWrite_unmappedAt hs hm
  have load : loadA addr s = unmappedAt addr (internal s) := read _
  obtain ⟨rfl, h⟩ | ⟨rfl, rfl | rfl⟩ | ⟨rfl, rfl | rfl⟩ | rfl | rfl | rfl | ⟨n, rfl, rfl | rfl⟩ |
    ⟨rfl, rfl | rfl⟩ | ⟨rfl, rfl⟩ := h
  · obtain ⟨r, rfl | rfl⟩ | ⟨n, rfl⟩ | ⟨op, rfl⟩ | ⟨op, rfl⟩ | ⟨b, rfl | rfl | rfl⟩ | rfl | rfl | rfl | rfl | rfl | rfl := h
    · exact (exec_rowLdRegAtHl ..).trans (read _)
    · exact (exec_rowLdAtHlReg ..).trans (write ..)
    · exact write ..
    · exact (exec_rowAluAtHl ..).trans (read _)
    · exact (exec_rowRotAtHl ..).trans (read _)
    · exact (exec_rowBitAtHl ..).trans (read _)
    · exact (exec_rowResAtHl ..).trans (read _)
    · exact (exec_rowSetAtHl ..).trans (read _)
    · exact (exec_incAtHl s).trans (read _)
    · exact (exec_decAtHl s).trans (read _)
    · exact (show exec .ldAAtHli s = loadAStep 1 s from rfl).trans (read _)
    · exact (show exec .ldAAtHld s = loadAStep (-1) s from rfl).trans (read _)
    · exact write ..
    · exact write ..
  · exact load
  · exact write ..
  · exact load
  · exact write ..
  · exact load
  · exact write ..
  · exact write ..
  · rw [← highPage_eq] at *; exact load
  · rw [← highPage_eq] at *; exact write ..
  · rw [← highPage_eq] at *; exact load
  · rw [← highPage_eq] at *; exact write ..
  · exact fetch8_unmapped hs hm runCbEntry

/-- Every form that pushes is an internal M-cycle and then `push16`. -/
theorem pushForm_exec {i : Instr} {v : Word} {s : State} (h : pushForm i v s) : ∃ k, exec i s = push16 v (internals 1 s) k := by
  obtain ⟨p, rfl, rfl⟩ | ⟨rfl, ⟨n, rfl⟩ | ⟨cc, n, hc, rfl⟩ | ⟨y, rfl⟩⟩ := h
  · exact ⟨_, exec_rowPush ..⟩
  · exact ⟨_, rfl⟩
  · exact ⟨_, (exec_rowCallCc ..).trans (if_pos ((cond_iff' cc s).2 hc))⟩
  · exact ⟨_, exec_rowRst ..⟩

/-- Every form that pops is `pop16` after its internal M-cycles. -/
theorem popForm_exec {i : Instr} {n : Nat} {s : State} (h : popForm i n s) : ∃ k, exec i s = pop16 (internals n s) k := by
  obtain ⟨⟨p, rfl⟩ | rfl | rfl, rfl⟩ | ⟨cc, hc, rfl, rfl⟩ := h
  · exact ⟨_, exec_rowPop ..⟩
  · exact ⟨_, show exec .ret s = ret s from rfl⟩
  · exact ⟨_, show exec .reti s = returnFromInterrupt s from rfl⟩
  · exact ⟨_, (exec_rowRetCc ..).trans (if_pos ((cond_iff' cc s).2 hc))⟩

/-- A push after `n` M-cycles whose first write has no device. -/
theorem push16_internals_first {s : State} (hs : s.running) (n : Nat) (v : Word) (hm : mapped (s.regs.sp - 1) = false)
    (k : State → StepResult) :
    push16 v (internals n s) k =
      unmappedAt (s.regs.sp - 1) { internals (n + 1) s with regs := { s.regs with sp := s.regs.sp - 1 } } := by
  have hr := internals_regs n s
  rw [← hr] at hm ⊢
  rw [push16_first_unmapped ((internals_fault n s).trans hs) v hm, ← internals_succ]

/-- A push after `n` M-cycles whose second write has no device. -/
theorem push16_internals_second {s u : State} (hs : s.running) (n : Nat) (v : Word)
    (hu : busWrite (s.regs.sp - 1) (hiByte v) (internals (n + 1) s) = some u) (hm : mapped (s.regs.sp - 2) = false)
    (k : State → StepResult) :
    push16 v (internals n s) k =
      unmappedAt (s.regs.sp - 2) { internal u with regs := { s.regs with sp := s.regs.sp - 2 } } := by
  have hr := internals_regs n s
  rw [internals_succ] at hu
  rw [← hr] at hu hm ⊢
  exact push16_second_unmapped ((internals_fault n s).trans hs) v hu hm k

/-- A pop after `n` M-cycles whose first read has no device. -/
theorem pop16_internals_first {s : State} (hs : s.running) (n : Nat) (hm : mapped s.regs.sp = false) (k : Word → State → StepResult) :
    pop16 (internals n s) k = unmappedAt s.regs.sp (internals (n + 1) s) := by
  have hr := internals_regs n s
  rw [← hr] at hm ⊢
  rw [pop16_first_unmapped ((internals_fault n s).trans hs) hm, ← internals_succ]

/-- A pop after `n` M-cycles whose second read has no device. -/
theorem pop16_internals_second {s : State} (hs : s.running) (n : Nat) (h1 : mapped s.regs.sp = true)
    (hm : mapped (s.regs.sp + 1) = false) (k : Word → State → StepResult) :
    pop16 (internals n s) k =
      unmappedAt (s.regs.sp + 1) { internals (n + 2) s with regs := { s.regs with sp := s.regs.sp + 1 } } := by
  have hr := internals_regs n s
  rw [← hr] at h1 hm ⊢
  rw [pop16_second_unmapped ((internals_fault n s).trans hs) h1 hm, ← internals_succ, ← internals_succ]

theorem IntKind.bit_eq (k : IntKind) : k.bit = 1#5 <<< k.num := by cases k <;> rfl

theorem IntKind.vector_eq (k : IntKind) : k.vector = 0x0040 + BitVec.ofNat 16 (8 * k.num) := by cases k <;> rfl

/-- The state from which a dispatch counts its M-cycles (R320). -/
def State.dispatching (s : State) (k : IntKind) : State :=
  { s with halted := false, ime := false, imePending := false, iflag := s.iflag &&& ~~~(1#5 <<< k.num) }

/-- A step that dispatches is a push of PC after two internal M-cycles, and then the vector. -/
theorem step_dispatch_push {s : State} {k : IntKind} (hs : s.running) (hi : s.ime = true) (hp : priority s.pending = some k) :
    step s = push16 s.regs.pc (internals 2 (s.dispatching k)) fun s => .next (internal (s.setPc k.vector)) := by
  rw [step_dispatch hs hi hp, State.dispatching, ← IntKind.bit_eq]
  rfl

/-- Settles O45. -/
theorem faultingAccessEndsTheInstruction : Obligations.FaultingAccessEndsTheInstruction := by
  refine ⟨fun i s addr hs h hm => accessesFirst_unmapped hs h hm, fun s u n hs hu hm => ?_, fun i s v hs h => ?_,
    fun i s k hs h => ?_, fun s k hs hi hp => ?_⟩
  · obtain ⟨hregs, -, -, -, hfault, -⟩ := busWrite_frame hu
    exact (memWrite_some hu _).trans (memWrite_unmappedAt (hfault.trans hs) hm _ _)
  · obtain ⟨k, hexec⟩ := pushForm_exec h
    rw [hexec]
    exact ⟨fun hm => push16_internals_first hs 1 v hm k, fun u hu hm => push16_internals_second hs 1 v hu hm k⟩
  · obtain ⟨f, hexec⟩ := popForm_exec h
    rw [hexec]
    exact ⟨fun hm => pop16_internals_first hs k hm f, fun h1 hm => pop16_internals_second hs k h1 hm f⟩
  · rw [step_dispatch_push hs hi hp]
    exact ⟨fun hm => push16_internals_first (s := s.dispatching k) hs 2 _ hm _,
      fun u hu hm => push16_internals_second (s := s.dispatching k) hs 2 _ hu hm _⟩

/-! Taking an interrupt. -/

/-- Settles O47. -/
theorem interruptDispatch : Obligations.InterruptDispatch := by
  intro s k hs hi hbit hlow h1 h2 u
  have hp : priority s.pending = some k := (priority_some_iff _ k).2 ⟨hbit, hlow⟩
  obtain ⟨w, hw, hpush⟩ := push16_pushed (s := s.dispatching k) 2 s.regs.pc h1 h2 fun s => .next (internal (s.setPc k.vector))
  have hstep := (step_dispatch_push hs hi hp).trans hpush
  obtain ⟨hime, hpend, hhalt⟩ := dispatch_next_control ((step_dispatch hs hi hp).symm.trans hstep)
  exact ⟨w, _, hstep, hw, rfl, fun _ => rfl, by rw [← IntKind.vector_eq]; rfl, hime, hpend, hhalt⟩

end Sys2Proof.Machine
end

section
/-! The bus: interrupt registers, the one cell that a write reaches, cartridge ROM, and the devices outside the core (R40 to R57). -/

namespace Sys2Proof.Machine

/-! The interrupt registers. -/

/-- Five stored bits under three bits that read 1 (R52, R56). -/
theorem ones_append5 : ∀ f : BitVec 5, 0b111#3 ++ f = 0xE0 ||| f.setWidth 8 := by decide

/-- Settles O53. -/
theorem interruptRegistersOnTheBus : Obligations.InterruptRegistersOnTheBus :=
  fun _ s => ⟨congrArg some (ones_append5 s.iflag), rfl, congrArg some (ones_append5 s.ie), rfl⟩

/-! The cell that a write reaches. -/

/-- A byte written to a cell is read back at the same address. -/
theorem busRead_setCell {addr : Word} {s : State} (v : Byte) (h : writesCell addr s = true) :
    busRead addr (s.setCell (cellOf addr) v) = some v := by
  have hvram : (s.setCell (cellOf addr) v).vramBlocked = s.vramBlocked := rfl
  have hoam : (s.setCell (cellOf addr) v).oamBlocked = s.oamBlocked := rfl
  unfold writesCell at h
  unfold busRead
  cases hr : region addr <;> simp_all [cartRead]

/-- The frame of a write: all but one cell, and all of them where it reaches none. -/
theorem busWrite_one_cell {addr : Word} {v : Byte} {s t : State} (h : busWrite addr v s = some t) :
    t.regs = s.regs ∧ t.t = s.t ∧ t.ime = s.ime ∧ t.imePending = s.imePending ∧ t.halted = s.halted ∧ t.fault = s.fault ∧
      (writesCell addr s = true → t = s.setCell (cellOf addr) v ∧ busRead addr t = some v) ∧
      (writesCell addr s = false → ∀ a, t.cell a = s.cell a) ∧ ∀ a, a ≠ cellOf addr → t.cell a = s.cell a := by
  obtain ⟨hregs, hime, hpend, hhalt, hfault, ht, -⟩ := busWrite_frame h
  obtain ⟨hcells, -⟩ := busWrite_cells h
  refine ⟨hregs, ht, hime, hpend, hhalt, hfault, fun hc => ?_, fun hc a => hcells a (by simp [hc]),
    fun a ha => hcells a fun _ => ha⟩
  obtain rfl := Option.some.inj ((busWrite_cell v hc).symm.trans h)
  exact ⟨rfl, busRead_setCell v hc⟩

theorem writesCell_vram {addr : Word} (h : region addr = .vram) (s : State) : writesCell addr s = true ↔ s.ppuMode ≠ .drawing := by
  simp [writesCell, h, State.vramBlocked]

theorem busRead_vram {addr : Word} (h : region addr = .vram) (s : State) :
    (s.ppuMode = .drawing → busRead addr s = some 0xFF) ∧ (s.ppuMode ≠ .drawing → busRead addr s = some (s.cell addr.toNat)) := by
  simp only [busRead, h, State.vramBlocked]
  exact ⟨fun hm => by simp [hm], fun hm => by simp [hm]⟩

theorem writesCell_cartRam {addr : Word} (h : region addr = .cartRam) (s : State) :
    writesCell addr s = true ↔ s.inputs.cartRam = .plain := by
  simp [writesCell, h]

theorem access_cartRam {addr : Word} {s : State} (h : region addr = .cartRam) (hp : s.inputs.cartRam = .plain) (v : Byte) :
    busRead addr s = some (s.cell addr.toNat) ∧ busWrite addr v s = some (s.setCell addr.toNat v) := by
  simp [busRead, busWrite, h, cartRead, cartRamWrite, hp]

theorem writesCell_rom {addr : Word} (h : addr.toNat < 0x8000) (s : State) : writesCell addr s = false := by
  rcases region_rom h with hr | hr <;> simp [writesCell, hr]

theorem access_rom {addr : Word} {s : State} (h : addr.toNat < 0x8000) (hp : s.inputs.cartRom = .plain) (v : Byte) :
    busRead addr s = some (s.cell addr.toNat) ∧ busWrite addr v s = some s := by
  rcases region_rom h with hr | hr <;> simp [busRead, busWrite, hr, cartRead, cartRomWrite, hp]

/-- Settles O58. -/
theorem busWriteReachesOneCell : Obligations.BusWriteReachesOneCell := by
  refine ⟨fun addr v s t h => busWrite_one_cell h, fun addr s hlo hhi => ?_, fun addr v s hlo hhi => ?_, fun addr v s h => ?_⟩
  · have hr := region_vram hlo hhi
    exact ⟨writesCell_vram hr s, busRead_vram hr s⟩
  · have hr := region_cartRam hlo hhi
    exact ⟨writesCell_cartRam hr s, fun hp => access_cartRam hr hp v⟩
  · exact ⟨writesCell_rom h s, fun hp => access_rom h hp v⟩

/-- Settles O59: the cells of ROM are closed under steps, and so are the inputs, among them the cartridge device. -/
theorem stepsNeverChangeRom : Obligations.StepsNeverChangeRom := by
  intro s t h
  have hcells := (closed_rom s).step (fun _ _ => rfl) h
  have hinputs : t.inputs = s.inputs := (closed_inputs s.inputs).step rfl h
  refine ⟨hcells, fun hp => ?_⟩
  have hp' : t.inputs.cartRom = .plain := hinputs ▸ hp
  refine ⟨hp', fun addr ha => ?_⟩
  rw [(access_rom ha hp' 0).1, (access_rom ha hp 0).1, hcells _ ha]

/-! The devices outside the core. -/

/-- The ranges of the outside devices on the address map, with the device behind a cartridge range. -/
theorem outsideAt_cases {s : State} {addr : Word} (h : s.outsideAt addr) :
    (addr.toNat < 0xC000 ∧ ((region addr = .rom0 ∨ region addr = .romX) ∧ s.inputs.cartRom = .other ∨
        region addr = .cartRam ∧ s.inputs.cartRam = .other)) ∨
      ¬ addr.toNat < 0xC000 ∧ (region addr = .joypadSerial ∨ region addr = .ppuRegs) := by
  obtain ⟨ha, hd⟩ | ⟨hlo, hhi, hd⟩ | ha | ha := h
  · exact .inl ⟨by omega, .inl ⟨region_rom ha, hd⟩⟩
  · exact .inl ⟨hhi, .inr ⟨region_cartRam hlo hhi, hd⟩⟩
  · exact .inr ⟨by omega, .inl (region_joypadSerial.2 ha)⟩
  · exact .inr ⟨by omega, .inr (region_ppuRegs.2 ha)⟩

theorem busRead_outside {s : State} {addr : Word} (h : s.outsideAt addr) : busRead addr s = some (s.outsideAnswer addr) := by
  unfold State.outsideAnswer busRead
  obtain ⟨ha, ⟨hr | hr, hd⟩ | ⟨hr, hd⟩⟩ | ⟨ha, hr | hr⟩ := outsideAt_cases h <;>
    simp [*, cartRead, extIoRead, scheduleAt_eq_find]

theorem busWrite_outside {s : State} {addr : Word} (h : s.outsideAt addr) (v : Byte) :
    busWrite addr v s = some (s.deliver addr v) := by
  unfold busWrite
  obtain ⟨-, ⟨hr | hr, hd⟩ | ⟨hr, hd⟩⟩ | ⟨-, hr | hr⟩ := outsideAt_cases h <;>
    simp [*, cartRomWrite, cartRamWrite, extIoWrite]

/-- The writes that the cartridge has seen, after one more delivery. -/
theorem deliver_cartWrites (s : State) (addr : Word) (v : Byte) :
    (s.deliver addr v).cartWrites = if addr.toNat < 0xC000 then (addr, v) :: s.cartWrites else s.cartWrites := by
  unfold State.cartWrites State.deliver
  by_cases h : addr.toNat < 0xC000 <;> simp [h]

/-- Only a device outside the core gets a write delivered. -/
theorem outsideAt_of_deliver {s : State} {addr : Word} {v : Byte} (h : busWrite addr v s = some (s.deliver addr v)) :
    s.outsideAt addr := by
  have hne : ∀ t : State, t.outputs = s.outputs → s.deliver addr v ≠ t := fun t ht hd =>
    List.cons_ne_self _ _ ((congrArg State.outputs hd).trans ht)
  unfold busWrite at h
  cases hr : region addr <;> simp only [hr, Option.some.injEq, reduceCtorEq] at h
  case rom0 | romX =>
    have hb := region_bounds hr
    refine .inl ⟨by omega, ?_⟩
    cases hd : s.inputs.cartRom with
    | other => rfl
    | plain => simp only [cartRomWrite, hd] at h; exact absurd h.symm (hne s rfl)
  case cartRam =>
    have hb := region_bounds hr
    refine .inr (.inl ⟨hb.1, hb.2, ?_⟩)
    cases hd : s.inputs.cartRam with
    | other => rfl
    | plain => simp only [cartRamWrite, hd] at h; exact absurd h.symm (hne _ rfl)
  case joypadSerial => exact .inr (.inr (.inl (region_joypadSerial.1 hr)))
  case ppuRegs => exact .inr (.inr (.inr (region_ppuRegs.1 hr)))
  case vram => split at h <;> exact absurd h.symm (hne _ rfl)
  case oam => split at h <;> exact absurd h.symm (hne _ rfl)
  all_goals exact absurd h.symm (hne _ rfl)

/-- A write anywhere else adds no event. -/
theorem busWrite_outputs_eq {s t : State} {addr : Word} {v : Byte} (h : ¬ s.outsideAt addr) (hw : busWrite addr v s = some t) :
    t.outputs = s.outputs := by
  obtain ⟨-, rfl⟩ | ⟨-, rfl | rfl | ⟨tm, rfl, -⟩ | ⟨f, rfl⟩ | ⟨e, rfl⟩⟩ := busWrite_cases hw
  case inr.inr.inl => exact absurd (outsideAt_of_deliver hw) h
  all_goals rfl

/-- Settles O60. -/
theorem outsideDevicesOnTheBus : Obligations.OutsideDevicesOnTheBus := by
  refine ⟨fun addr v s h => ⟨busRead_outside h, ?_, busWrite_outside h v, fun t ht => ?_⟩,
    fun addr v s t h hw => busWrite_outputs_eq h hw, fun s t h => ⟨?_, ?_⟩⟩
  · exact memRead_some (busRead_outside (s := internal s) h)
  · obtain rfl := Option.some.inj ((busWrite_outside h v).symm.trans ht)
    exact deliver_cartWrites s addr v
  · exact (closed_inputs s.inputs).step rfl h
  · exact (closed_outputs s.outputs).step (List.suffix_refl _) h

end Sys2Proof.Machine
end

section
/-! The timer and time (R291, R293, R312, R330 to R337, R372). -/

namespace Sys2Proof.Machine

/-! The timer's registers on the bus. -/

/-- Three stored bits under five bits that read 1 (R27). -/
theorem ones_append3 : ∀ tac : BitVec 3, 0b11111#5 ++ tac = 0xF8 ||| tac.setWidth 8 := by decide

theorem timerSignal_eq (tac : BitVec 3) (div : Word) :
    timerSignal tac div = (tac.getLsbD 2 && div.getLsbD ([9, 3, 5, 7].getD (tac.setWidth 2).toNat 0)) := by
  rw [timerSignal, tacEnable, watchedBit, selBit_eq]

theorem writeTima_eq (tm : Timer) (v : Byte) :
    tm.writeTima v =
      { tm with tima := v, overflowPending := false, reloadDelay := if tm.overflowPending then 0 else tm.reloadDelay } := by
  obtain ⟨div, tima, tma, tac, pending, delay⟩ := tm
  cases pending <;> rfl

theorem busWrite_div_eq (v : Byte) (s : State) : busWrite 0xFF04 v s = some { s with timer := s.timer.writeDiv } := rfl

theorem busWrite_tima_eq (v : Byte) (s : State) : busWrite 0xFF05 v s = some { s with timer := s.timer.writeTima v } := rfl

theorem busWrite_tma_eq (v : Byte) (s : State) : busWrite 0xFF06 v s = some { s with timer := s.timer.writeTma v } := rfl

theorem busWrite_tac_eq (v : Byte) (s : State) : busWrite 0xFF07 v s = some { s with timer := s.timer.writeTac v } := rfl

theorem busRead_tima_eq (s : State) : busRead 0xFF05 s = some s.timer.tima := rfl

/-- Settles O54. -/
theorem timerRegistersOnTheBus : Obligations.TimerRegistersOnTheBus := by
  intro v s bitOf signal counted
  have hsignal (tac : BitVec 3) : timerSignal tac s.timer.divCounter = signal tac := timerSignal_eq ..
  have hcounted (tm : Timer) : tm.incTima = counted tm := incTima_eq tm
  refine ⟨rfl, rfl, rfl, congrArg some (ones_append3 s.timer.tac), ?_, ?_, rfl, ?_⟩
  · rw [busWrite_div_eq, Timer.writeDiv, hsignal, hcounted]
  · rw [busWrite_tima_eq, writeTima_eq]
  · rw [busWrite_tac_eq, Timer.writeTac, hsignal, hsignal, hcounted]

/-! T-cycles and M-cycles. -/

theorem countReload_tma (tm : Timer) : tm.countReload.1.tma = tm.tma := by
  unfold Timer.countReload
  split
  · split <;> rfl
  · rfl

theorem countReload_tac (tm : Timer) : tm.countReload.1.tac = tm.tac := by
  unfold Timer.countReload
  split
  · split <;> rfl
  · rfl

/-- The counter falls in the next T-cycle: the signal is 1 and the watched bit of the next divider is 0 (R332). -/
def Timer.edge (tm : Timer) : Bool := timerSignal tm.tac tm.divCounter && !watchedBit tm.tac (tm.divCounter + 1)

theorem countDiv_eq (tm : Timer) :
    tm.countDiv = if tm.edge then Timer.incTima { tm with divCounter := tm.divCounter + 1 }
      else { tm with divCounter := tm.divCounter + 1 } := rfl

theorem countDiv_tma (tm : Timer) : tm.countDiv.tma = tm.tma := by
  rw [countDiv_eq]
  split
  · exact incTima_tma _
  · rfl

theorem countDiv_tac (tm : Timer) : tm.countDiv.tac = tm.tac := by
  rw [countDiv_eq]
  split
  · exact incTima_tac _
  · rfl

theorem tick_tma (s : State) : (tick s).timer.tma = s.timer.tma := (countDiv_tma _).trans (countReload_tma _)

theorem tick_tac (s : State) : (tick s).timer.tac = s.timer.tac := (countDiv_tac _).trans (countReload_tac _)

/-- IF only gains bits in a T-cycle. -/
theorem tick_iflag_gains (s : State) {i : Nat} (h : s.iflag.getLsbD i = true) : (tick s).iflag.getLsbD i = true := by
  simp [tick, h]

theorem and_eq_left_of_bits {w : Nat} {x y : BitVec w} (h : ∀ i, x.getLsbD i = true → y.getLsbD i = true) : x &&& y = x := by
  apply BitVec.eq_of_getLsbD_eq
  intro i _
  rw [BitVec.getLsbD_and]
  cases hx : x.getLsbD i with
  | false => rfl
  | true => exact h i hx

theorem timerRequest_bit (b : Bool) (k : IntKind) :
    (if b then IntKind.timer.bit else 0).getLsbD k.num = true ↔ k = .timer ∧ b = true := by
  cases b <;> cases k <;> decide

/-- What IF gains in a T-cycle: the Timer bit where a pending reload ends, and the bits of the outside requests. -/
theorem tick_iflag_bit (s : State) (k : IntKind) : (tick s).iflag.getLsbD k.num = true ↔
    s.iflag.getLsbD k.num = true ∨ (k = .timer ∧ s.timer.overflowPending = true ∧ s.timer.reloadDelay ≤ 1) ∨
      ∃ e : ExtKind, e.kind = k ∧ (s.t, e) ∈ s.inputs.extIrq := by
  have hrequest : s.timer.tick.2 = true ↔ s.timer.overflowPending = true ∧ s.timer.reloadDelay ≤ 1 := by
    rw [show s.timer.tick.2 = s.timer.countReload.2 from rfl, countReload_request, Bool.and_eq_true, decide_eq_true_eq]
  rw [tick, BitVec.getLsbD_or, BitVec.getLsbD_or, Bool.or_eq_true, Bool.or_eq_true, timerRequest_bit, hrequest, extRequests_bit,
    or_assoc]

theorem extKind_num (e : ExtKind) : e.kind.num ≠ 2 ∧ (e = .vblank ∧ e.kind.num = 0 ∨ e = .lcdStat ∧ e.kind.num = 1 ∨
    e = .serial ∧ e.kind.num = 3 ∨ e = .joypad ∧ e.kind.num = 4) := by
  cases e <;> decide

/-- Settles O57. -/
theorem mcycleChangesTimerRequestsAndTimeOnly : Obligations.McycleChangesTimerRequestsAndTimeOnly := by
  refine ⟨fun s => ⟨rfl, internal_div s, ?_, ?_, ?_, rfl, internal_cell s⟩, tick_iflag_bit, extKind_num⟩
  · simp only [internal, tick_tma]
  · simp only [internal, tick_tac]
  · exact and_eq_left_of_bits fun i h =>
      tick_iflag_gains _ (tick_iflag_gains _ (tick_iflag_gains _ (tick_iflag_gains _ h)))

/-! The reload window. -/

/-- What `u` shows of a wrap of TIMA out of `tm` (R332 to R335). -/
def armsAtWrap (tm u : Timer) : Prop :=
  (u.overflowPending = true ↔ tm.tima = 0xFF ∧ u.tima ≠ 0xFF) ∧ (u.overflowPending = true → u.armed)

/-- Where nothing is counted nothing wraps. -/
theorem armsAtWrap_same {tm u : Timer} (hp : u.overflowPending = false) (ht : u.tima = tm.tima) : armsAtWrap tm u := by
  simp [armsAtWrap, hp, ht]

/-- A count arms the timer if it wraps; where it counts, the signal has fallen. -/
theorem armsAtWrap_incTima {tm u : Timer} (hp : u.overflowPending = false) (ht : u.tima = tm.tima)
    (hs : timerSignal u.tac u.divCounter = false) : armsAtWrap tm u.incTima := by
  rw [incTima_eq, ht]
  by_cases h : tm.tima = 0xFF
  · rw [if_pos h]
    exact ⟨⟨fun _ => ⟨h, (by decide : (0 : Byte) ≠ 0xFF)⟩, fun _ => rfl⟩, fun _ => ⟨rfl, rfl, rfl, hs⟩⟩
  · rw [if_neg h]
    have hpend {p : Prop} (hu : u.overflowPending = true) : p := absurd (hp.symm.trans hu) Bool.false_ne_true
    exact ⟨⟨fun hu => hpend hu, fun hw => absurd hw.1 h⟩, fun hu => hpend hu⟩

theorem timerSignal_zero (tac : BitVec 3) : timerSignal tac 0 = false := by simp [timerSignal, watchedBit]

theorem countReload_of_not_pending {tm : Timer} (h : tm.overflowPending = false) : tm.countReload = (tm, false) := by
  simp [Timer.countReload, h]

/-- A tick, a DIV write and a TAC write count TIMA only where the signal falls, and a wrap arms the timer. -/
theorem armsAtWrap_tick {tm : Timer} (hp : tm.overflowPending = false) : armsAtWrap tm tm.tick.1 := by
  rw [Timer.tick, countReload_of_not_pending hp, countDiv_eq]
  split
  · rename_i hedge
    simp only [Timer.edge, Bool.and_eq_true, Bool.not_eq_true'] at hedge
    exact armsAtWrap_incTima hp rfl (by simp only [timerSignal, hedge.2, Bool.and_false])
  · exact armsAtWrap_same hp rfl

theorem armsAtWrap_writeDiv {tm : Timer} (hp : tm.overflowPending = false) : armsAtWrap tm tm.writeDiv := by
  unfold Timer.writeDiv
  simp only
  split
  · exact armsAtWrap_incTima hp rfl (timerSignal_zero _)
  · exact armsAtWrap_same hp rfl

theorem armsAtWrap_writeTac {tm : Timer} (hp : tm.overflowPending = false) (v : Byte) : armsAtWrap tm (tm.writeTac v) := by
  unfold Timer.writeTac
  simp only
  split
  · rename_i hedge
    simp only [Bool.and_eq_true, Bool.not_eq_true'] at hedge
    exact armsAtWrap_incTima hp rfl hedge.2
  · exact armsAtWrap_same hp rfl

/-- The counter does not fall in the next `k` T-cycles. -/
def Timer.quiet (tm : Timer) (k : Nat) : Prop :=
  ∀ j < k, Timer.edge { tm with divCounter := tm.divCounter + BitVec.ofNat 16 j } = false

theorem armed_quiet {tm : Timer} (h : tm.armed) : tm.quiet 4 := fun _ hj => no_edge_soon h.2.2.2 hj

theorem quiet_edge {tm : Timer} {k : Nat} (h : tm.quiet (k + 1)) : tm.edge = false := by
  have h0 := h 0 (Nat.succ_pos k)
  rwa [show tm.divCounter + BitVec.ofNat 16 0 = tm.divCounter from BitVec.add_zero _] at h0

/-- Whether the counter falls depends on the divider and on TAC alone. -/
theorem quiet_tail {tm u : Timer} {k : Nat} (h : tm.quiet (k + 1)) (hd : u.divCounter = tm.divCounter + 1) (ht : u.tac = tm.tac) :
    u.quiet k := by
  intro j hj
  have hdiv : tm.divCounter + BitVec.ofNat 16 (j + 1) = u.divCounter + BitVec.ofNat 16 j := by
    rw [hd, BitVec.add_assoc, Nat.add_comm j 1, BitVec.ofNat_add]; rfl
  have hj' := h (j + 1) (Nat.succ_lt_succ hj)
  simp only [Timer.edge, hdiv] at hj' ⊢
  rw [ht]
  exact hj'

theorem countDiv_of_quiet {tm : Timer} (h : tm.edge = false) : tm.countDiv = { tm with divCounter := tm.divCounter + 1 } := by
  rw [countDiv_eq, h]; rfl

/-- A reload is pending in `k` T-cycles, and no count falls before it. -/
def Timer.waiting (tm : Timer) (k : Nat) : Prop := tm.overflowPending = true ∧ tm.reloadDelay = k ∧ tm.quiet k

/-- No reload is pending and no count falls in `k` T-cycles. -/
def Timer.idle (tm : Timer) (k : Nat) : Prop := tm.overflowPending = false ∧ tm.quiet k

/-- A T-cycle of a pending reload that does not end in it. -/
theorem tick_waiting {s : State} {k : Nat} (h : s.timer.waiting (k + 2)) :
    (tick s).timer.waiting (k + 1) ∧ (tick s).timer.tima = s.timer.tima ∧ (tick s).timer.tma = s.timer.tma ∧
      (tick s).iflag.getLsbD 2 = s.iflag.getLsbD 2 := by
  obtain ⟨hp, hd, hq⟩ := h
  have hreload : s.timer.countReload = ({ s.timer with reloadDelay := k + 1 }, false) := by
    simp [Timer.countReload, hp, hd]
  have htick : s.timer.tick = ({ s.timer with reloadDelay := k + 1, divCounter := s.timer.divCounter + 1 }, false) := by
    rw [Timer.tick, hreload, countDiv_of_quiet (tm := { s.timer with reloadDelay := k + 1 }) (quiet_edge hq)]
  rw [tick_if, htick, show (tick s).timer = s.timer.tick.1 from rfl, htick]
  exact ⟨⟨hp, rfl, quiet_tail hq rfl rfl⟩, rfl, rfl, Bool.or_false _⟩

/-- The timer where a pending reload ends: TIMA is TMA (R332). -/
def Timer.reloaded (tm : Timer) : Timer := { tm with tima := tm.tma, overflowPending := false, reloadDelay := 0 }

/-- The T-cycle in which a pending reload ends. -/
theorem tick_reload {s : State} (h : s.timer.waiting 1) :
    (tick s).timer.tima = s.timer.tma ∧ (tick s).iflag.getLsbD 2 = true ∧ (tick s).timer.overflowPending = false := by
  obtain ⟨hp, hd, hq⟩ := h
  have hreload : s.timer.countReload = (s.timer.reloaded, true) := by simp [Timer.countReload, Timer.reloaded, hp, hd]
  have htick : s.timer.tick = ({ s.timer.reloaded with divCounter := s.timer.divCounter + 1 }, true) := by
    rw [Timer.tick, hreload, countDiv_of_quiet (tm := s.timer.reloaded) (quiet_edge hq)]
    rfl
  rw [tick_if, htick, show (tick s).timer = s.timer.tick.1 from rfl, htick]
  exact ⟨rfl, Bool.or_true _, rfl⟩

/-- A T-cycle without a pending reload or a count. -/
theorem tick_idle {s : State} {k : Nat} (h : s.timer.idle (k + 1)) :
    (tick s).timer.idle k ∧ (tick s).timer.tima = s.timer.tima ∧ (tick s).iflag.getLsbD 2 = s.iflag.getLsbD 2 := by
  obtain ⟨hp, hq⟩ := h
  have htick : s.timer.tick = ({ s.timer with divCounter := s.timer.divCounter + 1 }, false) := by
    rw [Timer.tick, countReload_of_not_pending hp, countDiv_of_quiet (quiet_edge hq)]
  rw [tick_if, htick, show (tick s).timer = s.timer.tick.1 from rfl, htick]
  exact ⟨⟨hp, quiet_tail hq rfl rfl⟩, rfl, Bool.or_false _⟩

/-- Before a pending reload ends, nothing that it concerns changes. -/
theorem ticks_waiting {n k : Nat} {s : State} (h : s.timer.waiting (n + k + 1)) :
    (ticks n s).timer.waiting (k + 1) ∧ (ticks n s).timer.tima = s.timer.tima ∧ (ticks n s).timer.tma = s.timer.tma ∧
      (ticks n s).iflag.getLsbD 2 = s.iflag.getLsbD 2 := by
  induction n generalizing s with
  | zero => exact ⟨Nat.zero_add k ▸ h, rfl, rfl, rfl⟩
  | succ n ih =>
    obtain ⟨hw, htima, htma, hif⟩ := tick_waiting (k := n + k) (by convert h using 1; omega)
    obtain ⟨hw', htima', htma', hif'⟩ := ih hw
    exact ⟨hw', htima'.trans htima, htma'.trans htma, hif'.trans hif⟩

/-- A pending reload ends when its delay has passed. -/
theorem ticks_reload {k : Nat} {s : State} (h : s.timer.waiting (k + 1)) :
    (ticks (k + 1) s).timer.tima = s.timer.tma ∧ (ticks (k + 1) s).iflag.getLsbD 2 = true ∧
      (ticks (k + 1) s).timer.overflowPending = false := by
  obtain ⟨hw, -, htma, -⟩ := ticks_waiting (n := k) (k := 0) h
  rw [ticks_succ, ← htma]
  exact tick_reload hw

theorem ticks_idle {k m : Nat} {s : State} (h : s.timer.idle k) (hm : m ≤ k) :
    (ticks m s).timer.tima = s.timer.tima ∧ (ticks m s).iflag.getLsbD 2 = s.iflag.getLsbD 2 := by
  induction m generalizing s k with
  | zero => exact ⟨rfl, rfl⟩
  | succ m ih =>
    obtain ⟨k, rfl⟩ := Nat.exists_eq_add_of_le' (Nat.one_le_of_lt hm)
    obtain ⟨hi, htima, hif⟩ := tick_idle h
    obtain ⟨htima', hif'⟩ := ih hi (Nat.le_of_succ_le_succ hm)
    exact ⟨htima'.trans htima, hif'.trans hif⟩

/-- Settles O55. -/
theorem timaReloadWindow : Obligations.TimaReloadWindow := by
  refine ⟨fun s u v hp h => ?_, fun s harmed => ?_⟩
  · show armsAtWrap s.timer u.timer
    obtain rfl | h | h := h
    · exact armsAtWrap_tick hp
    · rw [busWrite_div_eq] at h
      cases h
      exact armsAtWrap_writeDiv hp
    · rw [busWrite_tac_eq] at h
      cases h
      exact armsAtWrap_writeTac hp v
  · obtain ⟨hp, hd, htima0, -⟩ := id harmed
    have hwait : s.timer.waiting 4 := ⟨hp, hd, armed_quiet harmed⟩
    have window (n : Nat) (hn : n < 4) : ∃ k, 4 - n = k + 1 ∧ s.timer.waiting (n + k + 1) :=
      ⟨3 - n, by omega, by convert hwait using 1; omega⟩
    obtain ⟨htima, hif, hpend⟩ := ticks_reload (k := 3) hwait
    refine ⟨fun n hn => ?_, htima, hif, hpend, fun n v t hn => ⟨fun ht m hm => ?_, fun ht => ?_⟩⟩
    · obtain ⟨k, -, hw⟩ := window n hn
      obtain ⟨⟨hp', -⟩, htima', -, hif'⟩ := ticks_waiting hw
      exact ⟨by rw [busRead_tima_eq, htima', htima0], hp', hif'⟩
    · obtain ⟨k, hk, hw⟩ := window n hn
      obtain ⟨⟨-, -, hq⟩, -, -, hif'⟩ := ticks_waiting hw
      rw [busWrite_tima_eq] at ht
      cases ht
      have hidle : ((ticks n s).timer.writeTima v).idle (k + 1) := writeTima_eq _ v ▸ ⟨rfl, hq⟩
      obtain ⟨htima', hif''⟩ := ticks_idle (s := { ticks n s with timer := (ticks n s).timer.writeTima v }) hidle (hk ▸ hm)
      exact ⟨htima'.trans (by rw [writeTima_eq]), hif''.trans hif'⟩
    · obtain ⟨k, hk, hw⟩ := window n hn
      obtain ⟨hw', -⟩ := ticks_waiting hw
      rw [busWrite_tma_eq] at ht
      cases ht
      obtain ⟨htima', hif', -⟩ := ticks_reload (s := { ticks n s with timer := (ticks n s).timer.writeTma v }) hw'
      rw [hk]
      exact ⟨htima', hif'⟩

/-! The rate of TIMA. -/

/-- The number of T-cycles in which TIMA counts once (R331). -/
def Timer.period (tm : Timer) : Nat := 2 ^ (selBit (tm.tac.setWidth 2) + 1)

theorem period_dvd (tm : Timer) : tm.period ∣ 65536 := by
  rw [Timer.period, show 65536 = 2 ^ 16 from rfl]
  refine Nat.pow_dvd_pow 2 ?_
  generalize tm.tac.setWidth 2 = b
  revert b
  decide

/-- An enabled timer counts exactly where the divider becomes a multiple of the period. -/
theorem edge_eq {tm : Timer} (he : tm.tac.getLsbD 2 = true) : tm.edge = decide ((tm.divCounter.toNat + 1) % tm.period = 0) := by
  rw [Timer.edge, timerSignal, tacEnable, he, Bool.true_and]
  exact edge_iff ..

/-- The timer after `n` T-cycles, a period of them at most, where no reload is pending and TIMA does not wrap: TIMA has counted once if
    the divider has reached a multiple of the period (`tick_after`). -/
def Timer.after (tm : Timer) (n : Nat) : Timer :=
  { tm with
    divCounter := tm.divCounter + BitVec.ofNat 16 n
    tima := if tm.divCounter.toNat % tm.period + n < tm.period then tm.tima else tm.tima + 1 }

theorem mod_period_lt (tm : Timer) : tm.divCounter.toNat % tm.period < tm.period := Nat.mod_lt _ (Nat.two_pow_pos _)

theorem after_zero (tm : Timer) : tm.after 0 = tm := by
  have hdiv : tm.divCounter + BitVec.ofNat 16 0 = tm.divCounter := BitVec.add_zero _
  rw [Timer.after, Nat.add_zero, if_pos (mod_period_lt tm), hdiv]

/-- Below two periods a number is a multiple of the period only if it is the period. -/
theorem succ_mod_eq_zero_iff {m n p : Nat} (hm : m < p) (hn : n < p) : (m + n + 1) % p = 0 ↔ m + n + 1 = p := by
  refine ⟨fun h => ?_, fun h => h ▸ Nat.mod_self _⟩
  obtain ⟨c, hc⟩ := Nat.dvd_of_mod_eq_zero h
  match c with
  | 0 => omega
  | 1 => omega
  | c + 2 =>
    have : p * 2 ≤ p * (c + 2) := Nat.mul_le_mul_left p (Nat.le_add_left 2 c)
    omega

/-- Within a period from now the counter falls once: where the divider reaches a multiple of the period. -/
theorem edge_after {tm : Timer} (he : tm.tac.getLsbD 2 = true) {n : Nat} (hn : n < tm.period) :
    (tm.after n).edge = decide (tm.divCounter.toNat % tm.period + n + 1 = tm.period) := by
  have hmod : ((tm.after n).divCounter.toNat + 1) % tm.period = (tm.divCounter.toNat % tm.period + n + 1) % tm.period := by
    rw [Timer.after, BitVec.toNat_add, BitVec.toNat_ofNat, Nat.add_mod_mod, ← Nat.mod_add_mod _ tm.period 1,
      Nat.mod_mod_of_dvd _ (period_dvd tm), Nat.mod_add_mod, add_assoc, add_assoc, Nat.mod_add_mod]
  rw [edge_eq (tm := tm.after n) he, decide_eq_decide, show (tm.after n).period = tm.period from rfl, hmod]
  exact succ_mod_eq_zero_iff (mod_period_lt tm) hn

theorem tick_after {tm : Timer} (he : tm.tac.getLsbD 2 = true) (hp : tm.overflowPending = false) (hf : tm.tima ≠ 0xFF) {n : Nat}
    (hn : n < tm.period) : (tm.after n).tick.1 = tm.after (n + 1) := by
  have hdiv : tm.divCounter + BitVec.ofNat 16 n + 1 = tm.divCounter + BitVec.ofNat 16 (n + 1) := by
    rw [BitVec.ofNat_add, ← BitVec.add_assoc]; rfl
  rw [Timer.tick, countReload_of_not_pending (tm := tm.after n) hp, countDiv_eq, edge_after he hn]
  by_cases hedge : tm.divCounter.toNat % tm.period + n + 1 = tm.period
  · have hbefore : tm.divCounter.toNat % tm.period + n < tm.period := by omega
    have hafter : ¬ tm.divCounter.toNat % tm.period + (n + 1) < tm.period := by omega
    rw [decide_eq_true hedge, if_pos rfl, incTima_eq]
    simp only [Timer.after, hdiv, if_pos hbefore, if_neg hafter, if_neg hf]
  · rw [decide_eq_false hedge, if_neg Bool.false_ne_true]
    simp only [Timer.after, hdiv]
    congr 1
    exact if_congr (by omega) rfl rfl

theorem ticks_after {s : State} (he : s.timer.tac.getLsbD 2 = true) (hp : s.timer.overflowPending = false)
    (hf : s.timer.tima ≠ 0xFF) {n : Nat} (hn : n ≤ s.timer.period) : (ticks n s).timer = s.timer.after n := by
  induction n with
  | zero => exact (after_zero _).symm
  | succ n ih =>
    rw [ticks_succ, show (tick (ticks n s)).timer = (ticks n s).timer.tick.1 from rfl, ih (Nat.le_of_succ_le hn)]
    exact tick_after he hp hf hn

/-- Settles O56. -/
theorem timaCountsOncePerPeriod : Obligations.TimaCountsOncePerPeriod := by
  intro s he hp hf period h
  have hperiod : period = s.timer.period := by
    obtain ⟨hb, rfl⟩ | ⟨hb, rfl⟩ | ⟨hb, rfl⟩ | ⟨hb, rfl⟩ := h <;> rw [Timer.period, hb] <;> rfl
  rw [hperiod, ticks_after he hp hf le_rfl, Timer.after, if_neg (Nat.not_lt.mpr (Nat.le_add_left ..))]

end Sys2Proof.Machine
end
